-- ==== Sys2Proof/Word.lean ====
section
/-! DEFINITION. The fixed-width words of the keyer: the 8-bit character code and ROM word, and the 32-bit host word. -/

namespace Sys2Proof

/-- A character code, an encoder ROM word or one byte of the message RAM (R80, R82, R60). -/
abbrev Byte := BitVec 8

/-- One host word: every host access moves 32 bits (R61). -/
abbrev Word := BitVec 32

end Sys2Proof
end

