-- ==== Sys2Proof/Config.lean ====
section
/-! DEFINITION. The build parameters that the spec leaves OPEN (R5), and the one value it leaves unknown. -/

namespace Sys2Proof

/-- The OPEN parameters of a build (R5). A `Config` is carried in the state and no step changes it, so a claim
about every state is a claim about every build. `KEYER_BASE` is a parameter of the host's own model (R66) and no rule
of the keyer reads it, so it has no field. -/
structure Config where
  /-- `MSG_MAX`, the size of the message RAM in bytes (R5). -/
  msgMax : Nat
  /-- `F_CLK`, the frequency of `clk` in Hz, which only the conversion to seconds reads (R5, R227). R5 says positive and no
  more. DESIGN CHOICE, log entry 23: it is a whole number of Hz, so a fractional frequency is no build. -/
  fClk : Nat
deriving DecidableEq, Repr

/-- What R5 asks of the OPEN parameters: `MSG_MAX` a multiple of 4 from 4 to 3840, `F_CLK` positive. -/
abbrev Config.Legal (c : Config) : Prop :=
  c.msgMax % 4 = 0 ∧ 4 ≤ c.msgMax ∧ c.msgMax ≤ 3840 ∧ 0 < c.fClk

/-- The build of the opcode table and of the test vectors: `MSG_MAX` = 256 (R5). `F_CLK` is 1 MHz, the value of the
example in R253. DESIGN CHOICE, log entry 1: unsafe only for a claim about the one state `State.reset`. -/
def Config.table : Config := { msgMax := 256, fClk := 1000000 }

/-- FREE VALUE, log entry 2 (safe). What byte `addr` of the message RAM holds while nothing has written it since the
reset numbered `epoch` (R38, R64, R301, R310): an arbitrary byte, the same on every read until it is written. -/
opaque Config.unwrittenByte (epoch addr : Nat) : Byte

end Sys2Proof
end

