-- ==== Sys2Proof/Syntax.lean ====
section
/-! DEFINITION. What the keyer interprets (92_eei_decisions.md D32): the encoder's character codes, the scheduler's event
kinds and the host operations, one constructor of `Instr` for each row of spec/opcode_table.json, and the data they are
made of: symbols, tokens and event records. -/

namespace Sys2Proof

/-- A Morse symbol (R100). -/
inductive Symbol
  | dot
  | dash
deriving DecidableEq, Repr

/-- One character of the message after encoding (R100). -/
inductive Token
  | letter (symbols : List Symbol)
  | wordGap
  | unknown
deriving DecidableEq, Repr

/-- The level of an event: OFF drives `led` = 0, ON drives `led` = 1 (R85, R218). -/
inductive Level
  | off
  | on
deriving DecidableEq, Repr

/-- Why an event exists (R86). The reserved kinds 0 and 11 to 15 are never emitted and have no constructor. -/
inductive Kind
  | dot
  | dash
  | symgap
  | lettergap
  | wordgap
  | preSettle
  | preDot
  | preGap
  | preSep
  | repgap
deriving DecidableEq, Repr

/-- An event `ev(LEVEL, UNITS, KIND)` (R85). UNITS is the 4-bit field of the record. -/
structure Event where
  level : Level
  units : BitVec 4
  kind : Kind
deriving DecidableEq, Repr

/-- The instructions: one constructor for each row of spec/opcode_table.json. -/
inductive Instr
  /-- CHAR_A, R105: the code 0x41. -/
  | charA
  /-- CHAR_B, R106: the code 0x42. -/
  | charB
  /-- CHAR_C, R107: the code 0x43. -/
  | charC
  /-- CHAR_D, R108: the code 0x44. -/
  | charD
  /-- CHAR_E, R109: the code 0x45. -/
  | charE
  /-- CHAR_F, R110: the code 0x46. -/
  | charF
  /-- CHAR_G, R111: the code 0x47. -/
  | charG
  /-- CHAR_H, R112: the code 0x48. -/
  | charH
  /-- CHAR_I, R113: the code 0x49. -/
  | charI
  /-- CHAR_J, R114: the code 0x4A. -/
  | charJ
  /-- CHAR_K, R115: the code 0x4B. -/
  | charK
  /-- CHAR_L, R116: the code 0x4C. -/
  | charL
  /-- CHAR_M, R117: the code 0x4D. -/
  | charM
  /-- CHAR_N, R118: the code 0x4E. -/
  | charN
  /-- CHAR_O, R119: the code 0x4F. -/
  | charO
  /-- CHAR_P, R120: the code 0x50. -/
  | charP
  /-- CHAR_Q, R121: the code 0x51. -/
  | charQ
  /-- CHAR_R, R122: the code 0x52. -/
  | charR
  /-- CHAR_S, R123: the code 0x53. -/
  | charS
  /-- CHAR_T, R124: the code 0x54. -/
  | charT
  /-- CHAR_U, R125: the code 0x55. -/
  | charU
  /-- CHAR_V, R126: the code 0x56. -/
  | charV
  /-- CHAR_W, R127: the code 0x57. -/
  | charW
  /-- CHAR_X, R128: the code 0x58. -/
  | charX
  /-- CHAR_Y, R129: the code 0x59. -/
  | charY
  /-- CHAR_Z, R130: the code 0x5A. -/
  | charZ
  /-- CHAR_0, R131: the code 0x30. -/
  | char0
  /-- CHAR_1, R132: the code 0x31. -/
  | char1
  /-- CHAR_2, R133: the code 0x32. -/
  | char2
  /-- CHAR_3, R134: the code 0x33. -/
  | char3
  /-- CHAR_4, R135: the code 0x34. -/
  | char4
  /-- CHAR_5, R136: the code 0x35. -/
  | char5
  /-- CHAR_6, R137: the code 0x36. -/
  | char6
  /-- CHAR_7, R138: the code 0x37. -/
  | char7
  /-- CHAR_8, R139: the code 0x38. -/
  | char8
  /-- CHAR_9, R140: the code 0x39. -/
  | char9
  /-- CHAR_a, R141: the code 0x61. -/
  | charLowerA
  /-- CHAR_b, R141: the code 0x62. -/
  | charLowerB
  /-- CHAR_c, R141: the code 0x63. -/
  | charLowerC
  /-- CHAR_d, R141: the code 0x64. -/
  | charLowerD
  /-- CHAR_e, R141: the code 0x65. -/
  | charLowerE
  /-- CHAR_f, R141: the code 0x66. -/
  | charLowerF
  /-- CHAR_g, R141: the code 0x67. -/
  | charLowerG
  /-- CHAR_h, R141: the code 0x68. -/
  | charLowerH
  /-- CHAR_i, R141: the code 0x69. -/
  | charLowerI
  /-- CHAR_j, R141: the code 0x6A. -/
  | charLowerJ
  /-- CHAR_k, R141: the code 0x6B. -/
  | charLowerK
  /-- CHAR_l, R141: the code 0x6C. -/
  | charLowerL
  /-- CHAR_m, R141: the code 0x6D. -/
  | charLowerM
  /-- CHAR_n, R141: the code 0x6E. -/
  | charLowerN
  /-- CHAR_o, R141: the code 0x6F. -/
  | charLowerO
  /-- CHAR_p, R141: the code 0x70. -/
  | charLowerP
  /-- CHAR_q, R141: the code 0x71. -/
  | charLowerQ
  /-- CHAR_r, R141: the code 0x72. -/
  | charLowerR
  /-- CHAR_s, R141: the code 0x73. -/
  | charLowerS
  /-- CHAR_t, R141: the code 0x74. -/
  | charLowerT
  /-- CHAR_u, R141: the code 0x75. -/
  | charLowerU
  /-- CHAR_v, R141: the code 0x76. -/
  | charLowerV
  /-- CHAR_w, R141: the code 0x77. -/
  | charLowerW
  /-- CHAR_x, R141: the code 0x78. -/
  | charLowerX
  /-- CHAR_y, R141: the code 0x79. -/
  | charLowerY
  /-- CHAR_z, R141: the code 0x7A. -/
  | charLowerZ
  /-- CHAR_SPACE, R104: the code 0x20. -/
  | charSpace
  /-- CHAR_UNKNOWN_00_1F, R103: the codes 0x00 to 0x1F; `low` is the code's low 5 bits. -/
  | charUnknown00_1F (low : BitVec 5)
  /-- CHAR_UNKNOWN_21_21, R103: the codes 0x21 to 0x21. -/
  | charUnknown21_21
  /-- CHAR_UNKNOWN_22_23, R103: the codes 0x22 to 0x23; `low` is the code's low 1 bit. -/
  | charUnknown22_23 (low : BitVec 1)
  /-- CHAR_UNKNOWN_24_27, R103: the codes 0x24 to 0x27; `low` is the code's low 2 bits. -/
  | charUnknown24_27 (low : BitVec 2)
  /-- CHAR_UNKNOWN_28_2F, R103: the codes 0x28 to 0x2F; `low` is the code's low 3 bits. -/
  | charUnknown28_2F (low : BitVec 3)
  /-- CHAR_UNKNOWN_3A_3B, R103: the codes 0x3A to 0x3B; `low` is the code's low 1 bit. -/
  | charUnknown3A_3B (low : BitVec 1)
  /-- CHAR_UNKNOWN_3C_3F, R103: the codes 0x3C to 0x3F; `low` is the code's low 2 bits. -/
  | charUnknown3C_3F (low : BitVec 2)
  /-- CHAR_UNKNOWN_40_40, R103: the codes 0x40 to 0x40. -/
  | charUnknown40_40
  /-- CHAR_UNKNOWN_5B_5B, R103: the codes 0x5B to 0x5B. -/
  | charUnknown5B_5B
  /-- CHAR_UNKNOWN_5C_5F, R103: the codes 0x5C to 0x5F; `low` is the code's low 2 bits. -/
  | charUnknown5C_5F (low : BitVec 2)
  /-- CHAR_UNKNOWN_60_60, R103: the codes 0x60 to 0x60. -/
  | charUnknown60_60
  /-- CHAR_UNKNOWN_7B_7B, R103: the codes 0x7B to 0x7B. -/
  | charUnknown7B_7B
  /-- CHAR_UNKNOWN_7C_7F, R103: the codes 0x7C to 0x7F; `low` is the code's low 2 bits. -/
  | charUnknown7C_7F (low : BitVec 2)
  /-- CHAR_UNKNOWN_80_FF, R103: the codes 0x80 to 0xFF; `low` is the code's low 7 bits. -/
  | charUnknown80_FF (low : BitVec 7)
  /-- EV_DOT, R153: ev(ON, 1, DOT), packed 0x023. -/
  | evDot
  /-- EV_DASH, R154: ev(ON, 3, DASH), packed 0x047. -/
  | evDash
  /-- EV_SYMGAP, R155: ev(OFF, 1, SYMGAP), packed 0x062. -/
  | evSymgap
  /-- EV_LETTERGAP, R156: ev(OFF, 3, LETTERGAP), packed 0x086. -/
  | evLettergap
  /-- EV_WORDGAP, R157: ev(OFF, 7, WORDGAP), packed 0x0AE. -/
  | evWordgap
  /-- EV_PRE_SETTLE, R180: ev(OFF, 5, PRE_SETTLE), packed 0x0CA. -/
  | evPreSettle
  /-- EV_PRE_DOT, R180: ev(ON, 1, PRE_DOT), packed 0x0E3. -/
  | evPreDot
  /-- EV_PRE_GAP, R180: ev(OFF, 1, PRE_GAP), packed 0x102. -/
  | evPreGap
  /-- EV_PRE_SEP, R180: ev(OFF, 3, PRE_SEP), packed 0x126. -/
  | evPreSep
  /-- EV_REPGAP, R191: ev(OFF, g, REPGAP); `g` is UNITS, bits 4:1 of the record. -/
  | evRepgap (g : BitVec 4)
  /-- RD_REG_CTRL, R241: read of offset 0x000. -/
  | rdRegCtrl
  /-- RD_REG_STATUS, R241: read of offset 0x004. -/
  | rdRegStatus
  /-- RD_REG_COUNT, R241: read of offset 0x008. -/
  | rdRegCount
  /-- RD_REG_MSG_LEN, R241: read of offset 0x00C. -/
  | rdRegMsgLen
  /-- RD_REG_UNIT_TICKS, R241: read of offset 0x010. -/
  | rdRegUnitTicks
  /-- RD_MSG, R241: read of the message word at offset 0x100 + 4*j. -/
  | rdMsg (j : BitVec 10)
  /-- RD_UNMAPPED, R241: read of an unmapped offset; `o` is the word number `h_addr[11:2]`. -/
  | rdUnmapped (o : BitVec 10)
  /-- WR_CTRL, R242: write of offset 0x000 with neither action bit set in `d`. -/
  | wrCtrl (d : Word)
  /-- START, R243: write of offset 0x000 with `d[0]` = 1 (it is a WR_CTRL, and a CANCEL too when `d[1]` = 1; log entry 5). -/
  | start (d : Word)
  /-- CANCEL, R248: write of offset 0x000 with `d[0]` = 0 and `d[1]` = 1. -/
  | cancel (d : Word)
  /-- WR_STATUS, R250: write of offset 0x004. -/
  | wrStatus (d : Word)
  /-- WR_COUNT, R251: write of offset 0x008. -/
  | wrCount (d : Word)
  /-- WR_MSG_LEN, R252: write of offset 0x00C. -/
  | wrMsgLen (d : Word)
  /-- WR_UNIT_TICKS, R253: write of offset 0x010. -/
  | wrUnitTicks (d : Word)
  /-- WR_MSG, R254: write of the message word at offset 0x100 + 4*j. -/
  | wrMsg (j : BitVec 10) (d : Word)
  /-- WR_UNMAPPED, R256: write of an unmapped offset; `o` is the word number `h_addr[11:2]`. -/
  | wrUnmapped (o : BitVec 10) (d : Word)
deriving DecidableEq, Repr

/-- An instruction as its unit receives it. Every encoding is fixed width (R91): an 8-bit character code (R80), a 9-bit
event record (R85) or a 45-bit host access (R87). -/
inductive Frame
  | char8 (code : Byte)
  | event9 (record : BitVec 9)
  | host45 (access : BitVec 45)
deriving DecidableEq, Repr

end Sys2Proof
end

