-- ==== Sys2Proof/WellFormed.lean ====
section
/-! DEFINITION. Which terms of `Instr` the encodings admit: the operand values that R86 and R88 give each row. -/

namespace Sys2Proof

/-- Message word `j`, at offset 0x100 + 4*j, lies in the message RAM of the build and in the window of 4096 offsets
(R26, R62). -/
def msgWordInRange (cfg : Config) (j : BitVec 10) : Bool :=
  decide (4 * j.toNat < cfg.msgMax) && decide (64 + j.toNat < 1024)

/-- The word offset `4*o` is mapped: one of the five registers, or a word of the message window (R26). -/
def offsetMapped (cfg : Config) (o : BitVec 10) : Bool :=
  decide (o.toNat < 5) || (decide (64 ≤ o.toNat) && decide (4 * o.toNat < 256 + cfg.msgMax))

/-- The check of an instruction against the encodings, for a build with these parameters. Of the three rows that name
one write of offset 0x000, the action bits of `d` select one (log entry 5). -/
def Instr.wellFormed (cfg : Config) : Instr → Bool
  | .evRepgap g => decide (7 ≤ g.toNat)
  | .rdMsg j => msgWordInRange cfg j
  | .rdUnmapped o => !offsetMapped cfg o
  | .wrCtrl d => !d[0] && !d[1]
  | .start d => d[0]
  | .cancel d => !d[0] && d[1]
  | .wrMsg j _ => msgWordInRange cfg j
  | .wrUnmapped o _ => !offsetMapped cfg o
  | _ => true

end Sys2Proof
end

