-- ==== Sys2Proof/Decode.lean ====
section
/-! DEFINITION. The decoder of each of the keyer's three encodings, total and rejecting by name, and after it the encoder,
written from the same tables (30_encoding.md, spec/opcode_table.json). -/

namespace Sys2Proof

/-- Why a frame is no instruction. Character codes and host accesses are never rejected (R89, R88). -/
inductive DecodeError
  /-- KIND 0 or 11 to 15: reserved, never emitted (R86, R90). -/
  | reservedKind
  /-- A KIND of R86 with a LEVEL or UNITS other than the only one it can carry. -/
  | wrongLevelOrUnits
deriving DecidableEq, Repr

/-! ### Event records -/

/-- The KIND code of an event kind (R86). -/
def Kind.code : Kind → BitVec 4
  | .dot => 1
  | .dash => 2
  | .symgap => 3
  | .lettergap => 4
  | .wordgap => 5
  | .preSettle => 6
  | .preDot => 7
  | .preGap => 8
  | .preSep => 9
  | .repgap => 10

/-- The LEVEL bit: 1 = ON, 0 = OFF (R85). -/
def Level.bit : Level → BitVec 1
  | .off => 0
  | .on => 1

/-- The 9-bit record of an event: LEVEL bit 0, UNITS bits 4:1, KIND bits 8:5 (R85). -/
def Event.pack (e : Event) : BitVec 9 := e.kind.code ++ e.units ++ e.level.bit

/-- The nine event records with fixed UNITS, each with its instruction (R86). -/
def fixedEventRecords : List (BitVec 9 × Instr) :=
  [(0x023, .evDot), (0x047, .evDash), (0x062, .evSymgap), (0x086, .evLettergap), (0x0AE, .evWordgap),
   (0x0CA, .evPreSettle), (0x0E3, .evPreDot), (0x102, .evPreGap), (0x126, .evPreSep)]

/-- The decoder of event records (R85, R86). A REPGAP is recognised by KIND and LEVEL; its UNITS are the
operand. DESIGN CHOICE, log entry 24: so UNITS 0 to 6, which R86 does not give, decode too. -/
def decodeEvent (w : BitVec 9) : Except DecodeError Instr :=
  match fixedEventRecords.find? (fun row => row.1 == w) with
  | some row => .ok row.2
  | none =>
    let kind := w.extractLsb' 5 4
    if kind = 10 then
      if w[0] then .error .wrongLevelOrUnits else .ok (.evRepgap (w.extractLsb' 1 4))
    else if kind = 0 ∨ 10 < kind.toNat then .error .reservedKind
    else .error .wrongLevelOrUnits

/-! ### Character codes -/

/-- The characters outside the table, one aligned block of codes for each row (R103). -/
def decodeUnknownChar (c : Byte) : Instr :=
  if c &&& 0xE0 = 0x00 then .charUnknown00_1F (c.extractLsb' 0 5)
  else if c &&& 0xFF = 0x21 then .charUnknown21_21
  else if c &&& 0xFE = 0x22 then .charUnknown22_23 (c.extractLsb' 0 1)
  else if c &&& 0xFC = 0x24 then .charUnknown24_27 (c.extractLsb' 0 2)
  else if c &&& 0xF8 = 0x28 then .charUnknown28_2F (c.extractLsb' 0 3)
  else if c &&& 0xFE = 0x3A then .charUnknown3A_3B (c.extractLsb' 0 1)
  else if c &&& 0xFC = 0x3C then .charUnknown3C_3F (c.extractLsb' 0 2)
  else if c &&& 0xFF = 0x40 then .charUnknown40_40
  else if c &&& 0xFF = 0x5B then .charUnknown5B_5B
  else if c &&& 0xFC = 0x5C then .charUnknown5C_5F (c.extractLsb' 0 2)
  else if c &&& 0xFF = 0x60 then .charUnknown60_60
  else if c &&& 0xFF = 0x7B then .charUnknown7B_7B
  else if c &&& 0xFC = 0x7C then .charUnknown7C_7F (c.extractLsb' 0 2)
  else .charUnknown80_FF (c.extractLsb' 0 7)

/-- The decoder of character codes: every one of the 256 codes has exactly one class (R81). -/
def decodeChar (c : Byte) : Instr :=
  match c.toNat with
  | 0x20 => .charSpace
  | 0x30 => .char0
  | 0x31 => .char1
  | 0x32 => .char2
  | 0x33 => .char3
  | 0x34 => .char4
  | 0x35 => .char5
  | 0x36 => .char6
  | 0x37 => .char7
  | 0x38 => .char8
  | 0x39 => .char9
  | 0x41 => .charA
  | 0x42 => .charB
  | 0x43 => .charC
  | 0x44 => .charD
  | 0x45 => .charE
  | 0x46 => .charF
  | 0x47 => .charG
  | 0x48 => .charH
  | 0x49 => .charI
  | 0x4A => .charJ
  | 0x4B => .charK
  | 0x4C => .charL
  | 0x4D => .charM
  | 0x4E => .charN
  | 0x4F => .charO
  | 0x50 => .charP
  | 0x51 => .charQ
  | 0x52 => .charR
  | 0x53 => .charS
  | 0x54 => .charT
  | 0x55 => .charU
  | 0x56 => .charV
  | 0x57 => .charW
  | 0x58 => .charX
  | 0x59 => .charY
  | 0x5A => .charZ
  | 0x61 => .charLowerA
  | 0x62 => .charLowerB
  | 0x63 => .charLowerC
  | 0x64 => .charLowerD
  | 0x65 => .charLowerE
  | 0x66 => .charLowerF
  | 0x67 => .charLowerG
  | 0x68 => .charLowerH
  | 0x69 => .charLowerI
  | 0x6A => .charLowerJ
  | 0x6B => .charLowerK
  | 0x6C => .charLowerL
  | 0x6D => .charLowerM
  | 0x6E => .charLowerN
  | 0x6F => .charLowerO
  | 0x70 => .charLowerP
  | 0x71 => .charLowerQ
  | 0x72 => .charLowerR
  | 0x73 => .charLowerS
  | 0x74 => .charLowerT
  | 0x75 => .charLowerU
  | 0x76 => .charLowerV
  | 0x77 => .charLowerW
  | 0x78 => .charLowerX
  | 0x79 => .charLowerY
  | 0x7A => .charLowerZ
  | _ => decodeUnknownChar c

/-! ### Host accesses -/

/-- A host access packed: bit 44 `h_write`, bits 43:34 the word number `h_addr[11:2]`, bits 33:32 `h_addr[1:0]` (here 0),
bits 31:0 `h_wdata` (R87). -/
def packAccess (write : Bool) (o : BitVec 10) (d : Word) : BitVec 45 :=
  BitVec.ofBool write ++ o ++ 0#2 ++ d

/-- The decoder of host accesses (R88). `h_addr[1:0]` is ignored, and so is the data of a read (R61, R87). A write of
offset 0x000 is named by its action bits, START before CANCEL (log entry 5). -/
def decodeHost (cfg : Config) (w : BitVec 45) : Instr :=
  let o := w.extractLsb' 34 10
  let d := w.extractLsb' 0 32
  let mapped := offsetMapped cfg o
  if w[44] then
    match o.toNat with
    | 0 => if d[0] then .start d else if d[1] then .cancel d else .wrCtrl d
    | 1 => .wrStatus d
    | 2 => .wrCount d
    | 3 => .wrMsgLen d
    | 4 => .wrUnitTicks d
    | _ => if mapped then .wrMsg (o - 64) d else .wrUnmapped o d
  else
    match o.toNat with
    | 0 => .rdRegCtrl
    | 1 => .rdRegStatus
    | 2 => .rdRegCount
    | 3 => .rdRegMsgLen
    | 4 => .rdRegUnitTicks
    | _ => if mapped then .rdMsg (o - 64) else .rdUnmapped o

/-- The decoder: one frame to the instruction its unit runs. -/
def decode (cfg : Config) : Frame → Except DecodeError Instr
  | .char8 c => .ok (decodeChar c)
  | .event9 w => decodeEvent w
  | .host45 w => .ok (decodeHost cfg w)

/-! ### The encoder -/

/-- The code of an UNKNOWN row with `n` free low bits: the row's fixed bits above them (R103). -/
def unknownCode (block : Byte) (low : BitVec n) : Byte := block ||| low.setWidth 8

/-- The frame of a well-formed instruction: the row's fixed bits with the operands in their fields. -/
def encode : Instr → Frame
  | .charA => .char8 0x41
  | .charB => .char8 0x42
  | .charC => .char8 0x43
  | .charD => .char8 0x44
  | .charE => .char8 0x45
  | .charF => .char8 0x46
  | .charG => .char8 0x47
  | .charH => .char8 0x48
  | .charI => .char8 0x49
  | .charJ => .char8 0x4A
  | .charK => .char8 0x4B
  | .charL => .char8 0x4C
  | .charM => .char8 0x4D
  | .charN => .char8 0x4E
  | .charO => .char8 0x4F
  | .charP => .char8 0x50
  | .charQ => .char8 0x51
  | .charR => .char8 0x52
  | .charS => .char8 0x53
  | .charT => .char8 0x54
  | .charU => .char8 0x55
  | .charV => .char8 0x56
  | .charW => .char8 0x57
  | .charX => .char8 0x58
  | .charY => .char8 0x59
  | .charZ => .char8 0x5A
  | .char0 => .char8 0x30
  | .char1 => .char8 0x31
  | .char2 => .char8 0x32
  | .char3 => .char8 0x33
  | .char4 => .char8 0x34
  | .char5 => .char8 0x35
  | .char6 => .char8 0x36
  | .char7 => .char8 0x37
  | .char8 => .char8 0x38
  | .char9 => .char8 0x39
  | .charLowerA => .char8 0x61
  | .charLowerB => .char8 0x62
  | .charLowerC => .char8 0x63
  | .charLowerD => .char8 0x64
  | .charLowerE => .char8 0x65
  | .charLowerF => .char8 0x66
  | .charLowerG => .char8 0x67
  | .charLowerH => .char8 0x68
  | .charLowerI => .char8 0x69
  | .charLowerJ => .char8 0x6A
  | .charLowerK => .char8 0x6B
  | .charLowerL => .char8 0x6C
  | .charLowerM => .char8 0x6D
  | .charLowerN => .char8 0x6E
  | .charLowerO => .char8 0x6F
  | .charLowerP => .char8 0x70
  | .charLowerQ => .char8 0x71
  | .charLowerR => .char8 0x72
  | .charLowerS => .char8 0x73
  | .charLowerT => .char8 0x74
  | .charLowerU => .char8 0x75
  | .charLowerV => .char8 0x76
  | .charLowerW => .char8 0x77
  | .charLowerX => .char8 0x78
  | .charLowerY => .char8 0x79
  | .charLowerZ => .char8 0x7A
  | .charSpace => .char8 0x20
  | .charUnknown00_1F low => .char8 (unknownCode 0x00 low)
  | .charUnknown21_21 => .char8 0x21
  | .charUnknown22_23 low => .char8 (unknownCode 0x22 low)
  | .charUnknown24_27 low => .char8 (unknownCode 0x24 low)
  | .charUnknown28_2F low => .char8 (unknownCode 0x28 low)
  | .charUnknown3A_3B low => .char8 (unknownCode 0x3A low)
  | .charUnknown3C_3F low => .char8 (unknownCode 0x3C low)
  | .charUnknown40_40 => .char8 0x40
  | .charUnknown5B_5B => .char8 0x5B
  | .charUnknown5C_5F low => .char8 (unknownCode 0x5C low)
  | .charUnknown60_60 => .char8 0x60
  | .charUnknown7B_7B => .char8 0x7B
  | .charUnknown7C_7F low => .char8 (unknownCode 0x7C low)
  | .charUnknown80_FF low => .char8 (unknownCode 0x80 low)
  | .evDot => .event9 0x023
  | .evDash => .event9 0x047
  | .evSymgap => .event9 0x062
  | .evLettergap => .event9 0x086
  | .evWordgap => .event9 0x0AE
  | .evPreSettle => .event9 0x0CA
  | .evPreDot => .event9 0x0E3
  | .evPreGap => .event9 0x102
  | .evPreSep => .event9 0x126
  | .evRepgap g => .event9 (10#4 ++ g ++ 0#1)
  | .rdRegCtrl => .host45 (packAccess false 0 0)
  | .rdRegStatus => .host45 (packAccess false 1 0)
  | .rdRegCount => .host45 (packAccess false 2 0)
  | .rdRegMsgLen => .host45 (packAccess false 3 0)
  | .rdRegUnitTicks => .host45 (packAccess false 4 0)
  | .rdMsg j => .host45 (packAccess false (64 + j) 0)
  | .rdUnmapped o => .host45 (packAccess false o 0)
  | .wrCtrl d => .host45 (packAccess true 0 d)
  | .start d => .host45 (packAccess true 0 d)
  | .cancel d => .host45 (packAccess true 0 d)
  | .wrStatus d => .host45 (packAccess true 1 d)
  | .wrCount d => .host45 (packAccess true 2 d)
  | .wrMsgLen d => .host45 (packAccess true 3 d)
  | .wrUnitTicks d => .host45 (packAccess true 4 d)
  | .wrMsg j d => .host45 (packAccess true (64 + j) d)
  | .wrUnmapped o d => .host45 (packAccess true o d)

/-! ### The opcode table's words -/

/-- The frame that `nbits` bits of an opcode-table row, in whole bytes, stand for: 8 for a character code, 16 for a 9-bit
event record, 48 for a 45-bit host access (R91). A word with a bit above its frame's width is no frame. -/
def frameOfTableWord (nbits w : Nat) : Option Frame :=
  if nbits ≤ 8 then
    if w < 2 ^ 8 then some (.char8 (BitVec.ofNat 8 w)) else none
  else if nbits ≤ 16 then
    if w < 2 ^ 9 then some (.event9 (BitVec.ofNat 9 w)) else none
  else
    if w < 2 ^ 45 then some (.host45 (BitVec.ofNat 45 w)) else none

/-- The instruction that the decoder reads from a word numbered as spec/opcode_table.json numbers it, for the build of
that table (`MSG_MAX` = 256). -/
def decodeTableWord (nbits w : Nat) : Option Instr :=
  match frameOfTableWord nbits w with
  | some f =>
    match decode Config.table f with
    | .ok i => some i
    | .error _ => none
  | none => none

end Sys2Proof
end

