-- ==== Sys2Proof/Machine/State.lean ====
section
/-! DEFINITION. The state of the keyer as plain data (10_state.md), the reset state (R38, R301) and the reasons a step can
stop. -/

namespace Sys2Proof.Machine

open Sys2Proof

/-- The 3-valued state element `mode` (R22). `ending` is END, the one cycle of the release strobe. -/
inductive Mode
  | idle
  | run
  | ending
deriving DecidableEq, Repr

/-- The completion causes of STATUS.CAUSE (R270). The reserved codes 5 to 7 are never produced and have no constructor. -/
inductive Cause
  | none
  | ok
  | invalidArg
  | cancelled
  | driverFault
deriving DecidableEq, Repr

/-- The levels of the input ports in one cycle (R35). -/
structure Pins where
  rst : Bool
  hValid : Bool
  hWrite : Bool
  hAddr : BitVec 12
  hWdata : Word
  drvFault : Bool
deriving DecidableEq, Repr

/-- A cycle with no reset, no host access and no driver failure. -/
def Pins.quiet : Pins :=
  { rst := false, hValid := false, hWrite := false, hAddr := 0, hWdata := 0, drvFault := false }

/-- The levels of the output ports in one cycle (R36). -/
structure Ports where
  led : Bool
  ledOwn : Bool
  release : Bool
  busy : Bool
  hRdata : Word
  diagValid : Bool
  diagLevel : Bool
  diagUnits : BitVec 4
  diagKind : BitVec 4
deriving DecidableEq, Repr

/-- Every output at 0: the outputs of the first cycle after reset (R38). -/
def Ports.zero : Ports :=
  { led := false, ledOwn := false, release := false, busy := false, hRdata := 0, diagValid := false,
    diagLevel := false, diagUnits := 0, diagKind := 0 }

/-- The message RAM: the bytes written since reset as (index, byte) pairs. A byte that is not listed has not been written
since reset and holds no value of its own (R38, R64). -/
abbrev Memory := List Host.Cell

/-- The canonical form of a message RAM: the indices strictly rising. What an unlisted index reads as is no byte at all,
so no listed pair equals it. -/
abbrev Memory.wf (m : Memory) : Prop := (m.map Prod.fst).Pairwise (· < ·)

/-- The state of the keyer. The first group is the spec's; the second is the model's own (INVENTORY.md, `## State`). -/
structure State where
  /-- `mode` (R22). -/
  mode : Mode
  /-- The event index `k` (R21). It never wraps, so it is a natural number. -/
  k : Nat
  /-- `ticks_left`, the 36-bit down-counter (R23). -/
  ticksLeft : BitVec 36
  /-- `cancel_pend` (R24). -/
  cancelPend : Bool
  /-- CTRL.PRE_EN (R27). -/
  preEn : Bool
  /-- CTRL.DIAG_EN (R27). -/
  diagEn : Bool
  /-- CTRL.REPGAP (R27). -/
  repgap : BitVec 4
  /-- STATUS.DONE (R28). -/
  done : Bool
  /-- STATUS.CAUSE (R28, R270). -/
  cause : Cause
  /-- COUNT.VALUE (R29). -/
  count : BitVec 16
  /-- MSG_LEN.VALUE (R30). -/
  msgLen : BitVec 12
  /-- UNIT_TICKS.VALUE (R31). -/
  unitTicks : Word
  /-- The message RAM (R32, R62). -/
  msg : Memory
  /-- The input ports in the present cycle (R35). -/
  pins : Pins
  /-- The output ports as driven in the cycle that the last step made (R36). -/
  ports : Ports
  /-- MODEL: `schedule(msg)`, computed once at START as R25 allows. `emitToken` writes it, `State.events` reads it. -/
  sched : List Event
  /-- MODEL: the input ports of the cycles to come; when the list is empty the cycles to come are quiet. -/
  pending : List Pins
  /-- MODEL: how many resets there have been, which selects the unknown bytes of the message RAM (log entry 2). -/
  epoch : Nat
  /-- MODEL: the OPEN parameters of the build (R5). No step changes them. -/
  cfg : Config
deriving DecidableEq, Repr

/-- Why the keyer would stop with a fault: never. No access faults, no operation traps and every error is a completion
cause (R61, R66, R240, R270), so the type has no constructor. -/
inductive Fault
deriving DecidableEq, Repr

/-- Why the model refuses to go on. -/
inductive Refusal
  /-- Raised by an arm of `exec` whose instruction has no meaning yet. Safe: nothing is claimed of that instruction. No
  arm raises it. -/
  | notModelled (mnemonic : String)
  /-- Raised by `step` when the event at `k` has a LEVEL, UNITS or KIND that R86 gives no event. Safe: the scheduler
  emits no such event (R90, 93_implementation_defined.md I6), so no state that a run reaches raises it. -/
  | reservedEvent (reason : DecodeError)
deriving DecidableEq, Repr

/-- The state right after reset (R38, R301). The message RAM lists nothing: every byte is unknown (R301). -/
def State.reset : State :=
  { mode := .idle
    k := 0
    ticksLeft := 0
    cancelPend := false
    preEn := false
    diagEn := false
    repgap := 7
    done := false
    cause := .none
    count := 0
    msgLen := 0
    unitTicks := 0
    msg := []
    pins := Pins.quiet
    ports := Ports.zero
    sched := []
    pending := []
    epoch := 0
    cfg := Config.table }

end Sys2Proof.Machine
end

