-- ==== Sys2Proof/Machine/Flags.lean ====
section
/-! DEFINITION. The status flags STATUS.BUSY, STATUS.DONE and STATUS.CAUSE and what sets and clears them (R28, R33, R270).
The keyer has no arithmetic flags. -/

namespace Sys2Proof.Machine

open Sys2Proof

/-- The CAUSE code (R270). -/
def Cause.code : Cause → BitVec 3
  | .none => 0
  | .ok => 1
  | .invalidArg => 2
  | .cancelled => 3
  | .driverFault => 4

/-- STATUS.BUSY is computed: `mode != IDLE` (R28). -/
def State.busy (s : State) : Bool := decide (s.mode ≠ .idle)

/-- The end of a run and a refused START set DONE and write CAUSE (R33, R223, R245). -/
def State.setCompletion (c : Cause) (s : State) : State := { s with done := true, cause := c }

/-- An accepted START clears DONE and writes CAUSE NONE (R33, R244). -/
def State.clearCompletion (s : State) : State := { s with done := false, cause := .none }

/-- A write of 1 to STATUS.DONE clears DONE and nothing else (R250). -/
def State.clearDone (s : State) : State := { s with done := false }

end Sys2Proof.Machine
end

