-- ==== Sys2Proof/Machine/Operands.lean ====
section
/-! DEFINITION. The operand forms of the host operations: the fields of a written word (R242 to R254), the bytes of a
message word (R62), and the word that a read of each register returns (R241). -/

namespace Sys2Proof.Machine

open Sys2Proof

/-! ### Fields of a written word -/

/-- CTRL bit 0, START (R27). -/
def ctrlStart (d : Word) : Bool := d[0]
/-- CTRL bit 1, CANCEL (R27). -/
def ctrlCancel (d : Word) : Bool := d[1]
/-- CTRL bit 2, PRE_EN (R27). -/
def ctrlPreEn (d : Word) : Bool := d[2]
/-- CTRL bit 3, DIAG_EN (R27). -/
def ctrlDiagEn (d : Word) : Bool := d[3]
/-- CTRL bits 11:8, REPGAP (R27). -/
def ctrlRepgap (d : Word) : BitVec 4 := d.extractLsb' 8 4
/-- STATUS bit 1, write 1 to clear DONE (R28). -/
def statusDoneW1C (d : Word) : Bool := d[1]
/-- COUNT bits 15:0 (R29). -/
def countValue (d : Word) : BitVec 16 := d.extractLsb' 0 16
/-- MSG_LEN bits 11:0 (R30). -/
def msgLenValue (d : Word) : BitVec 12 := d.extractLsb' 0 12

/-! ### Message words, packed little-endian (R62) -/

/-- Byte `b` of a word: bits 8*b+7 to 8*b. -/
def wordByte (d : Word) (b : Nat) : Byte := d.extractLsb' (8 * b) 8

/-- The word with byte 0 in its low bits. -/
def wordOfBytes (b0 b1 b2 b3 : Byte) : Word := b3 ++ b2 ++ b1 ++ b0

/-! ### The words that the registers read as (R241) -/

/-- CTRL: `REPGAP` at 11:8, `DIAG_EN` at 3, `PRE_EN` at 2; the action bits and the reserved bits read 0 (R27). -/
def ctrlWord (s : State) : Word :=
  0#20 ++ s.repgap ++ 0#4 ++ BitVec.ofBool s.diagEn ++ BitVec.ofBool s.preEn ++ 0#2

/-- STATUS: `CAUSE` at 6:4, `DONE` at 1, `BUSY` at 0; the reserved bits read 0 (R28). -/
def statusWord (s : State) : Word :=
  0#25 ++ s.cause.code ++ 0#2 ++ BitVec.ofBool s.done ++ BitVec.ofBool s.busy

/-- COUNT: bits 31:16 read 0 (R29). -/
def countWord (s : State) : Word := s.count.setWidth 32

/-- MSG_LEN: bits 31:12 read 0 (R30). -/
def msgLenWord (s : State) : Word := s.msgLen.setWidth 32

end Sys2Proof.Machine
end

