-- ==== Sys2Proof/Machine/Encoder.lean ====
section
/-! DEFINITION. The encoder ROM: from an 8-bit character code to a token (40_encoder.md). -/

namespace Sys2Proof.Machine

open Sys2Proof

/-- Case folding, before the lookup: only 0x61 to 0x7A fold (R101). -/
def fold (c : Byte) : Byte :=
  if 0x61 ≤ c ∧ c ≤ 0x7A then c - 0x20 else c

/-- A ROM row of sixteen UNKNOWN words. -/
def romBlankRow : List Byte := List.replicate 16 0x00

/-- The contents of the encoder ROM, sixteen words a row as R102 prints them; the rows 0x80 to 0xF0 are blank. -/
def romWords : List Byte :=
  romBlankRow ++ romBlankRow ++
  [0xE0, 0x00, 0x00, 0x00, 0x00, 0x00, 0x00, 0x00, 0x00, 0x00, 0x00, 0x00, 0x00, 0x00, 0x00, 0x00] ++
  [0xBF, 0xBE, 0xBC, 0xB8, 0xB0, 0xA0, 0xA1, 0xA3, 0xA7, 0xAF, 0x00, 0x00, 0x00, 0x00, 0x00, 0x00] ++
  [0x00, 0x42, 0x81, 0x85, 0x61, 0x20, 0x84, 0x63, 0x80, 0x40, 0x8E, 0x65, 0x82, 0x43, 0x41, 0x67] ++
  [0x86, 0x8B, 0x62, 0x60, 0x21, 0x64, 0x88, 0x66, 0x89, 0x8D, 0x83, 0x00, 0x00, 0x00, 0x00, 0x00] ++
  romBlankRow ++ romBlankRow ++
  romBlankRow ++ romBlankRow ++ romBlankRow ++ romBlankRow ++
  romBlankRow ++ romBlankRow ++ romBlankRow ++ romBlankRow

/-- `ROM[a]` (R102). -/
def rom (a : Byte) : Byte := romWords.getD a.toNat 0x00

/-- One symbol bit of PAT: 1 is DASH (R84). -/
def symbolOfBit (b : Bool) : Symbol := if b then .dash else .dot

/-- A ROM word to its token (R84). `none` is the reserved LEN = 6, which the ROM never holds (R83, R90, R142). -/
def decodeRom (w : Byte) : Option Token :=
  let len := (w.extractLsb' 5 3).toNat
  if len = 0 then some .unknown
  else if len = 7 then some .wordGap
  else if len = 6 then none
  else some (.letter ((List.range len).map (fun i => symbolOfBit (w.getLsbD i))))

/-- `encode(c)` (R100). DEDUCED, log entry 6: the reserved ROM word would be UNKNOWN, and the ROM holds none
(`decodeRom_rom_isSome`). -/
def encodeChar (c : Byte) : Token := (decodeRom (rom (fold c))).getD .unknown

end Sys2Proof.Machine
end

