-- ==== Sys2Proof/Machine/Scheduler.lean ====
section
/-! DEFINITION. The timing state machine at the event level: tokens to events, the preamble, and the event sequence of a run
(41_scheduler.md, 42_preamble.md, 43_transmit.md). -/

namespace Sys2Proof.Machine

open Sys2Proof

/-- ev(ON, 1, DOT) (R153). -/
def dotEvent : Event := { level := .on, units := 1, kind := .dot }
/-- ev(ON, 3, DASH) (R154). -/
def dashEvent : Event := { level := .on, units := 3, kind := .dash }
/-- ev(OFF, 1, SYMGAP) (R155). -/
def symgapEvent : Event := { level := .off, units := 1, kind := .symgap }
/-- ev(OFF, 3, LETTERGAP) (R156). -/
def lettergapEvent : Event := { level := .off, units := 3, kind := .lettergap }
/-- ev(OFF, 7, WORDGAP) (R157). -/
def wordgapEvent : Event := { level := .off, units := 7, kind := .wordgap }
/-- ev(OFF, 5, PRE_SETTLE) (R180). -/
def preSettleEvent : Event := { level := .off, units := 5, kind := .preSettle }
/-- ev(ON, 1, PRE_DOT) (R180). -/
def preDotEvent : Event := { level := .on, units := 1, kind := .preDot }
/-- ev(OFF, 1, PRE_GAP) (R180). -/
def preGapEvent : Event := { level := .off, units := 1, kind := .preGap }
/-- ev(OFF, 3, PRE_SEP) (R180). -/
def preSepEvent : Event := { level := .off, units := 3, kind := .preSep }
/-- ev(OFF, g, REPGAP) (R191). -/
def repgapEvent (g : BitVec 4) : Event := { level := .off, units := g, kind := .repgap }

/-- `symbol_event(s)` (R153, R154). -/
def symbolEvent : Symbol → Event
  | .dot => dotEvent
  | .dash => dashEvent

/-- The events of a LETTER's symbols: a SYMGAP after each symbol but the last, a LETTERGAP after the last (R152). -/
def letterEvents : List Symbol → List Event
  | [] => []
  | [s] => [symbolEvent s, lettergapEvent]
  | s :: rest => symbolEvent s :: symgapEvent :: letterEvents rest

/-- `tok` (R152, R157, R158). -/
def tokenEvents : Token → List Event
  | .letter symbols => letterEvents symbols
  | .wordGap => [wordgapEvent]
  | .unknown => []

/-- `schedule(msg)` (R150, R164). -/
def schedule (msg : List Byte) : List Event := msg.flatMap (fun c => tokenEvents (encodeChar c))

/-- PREAMBLE (R180). -/
def preamble : List Event :=
  [preSettleEvent,
   preDotEvent, preGapEvent,
   preDotEvent, preGapEvent,
   preDotEvent, preGapEvent,
   preSepEvent]

/-- The events of repetition `i` of a run (the body of R190's loop): the REPGAP before every repetition but the first,
the preamble before the first when PRE_EN is set, then one copy of the message's events. -/
def repetition (sched : List Event) (pre : Bool) (g : BitVec 4) (i : Nat) : List Event :=
  (if 0 < i then [repgapEvent g] else []) ++ (if pre && i == 0 then preamble else []) ++ sched

/-- The repetitions `i` to `i + n - 1` of a run (R190). -/
def repetitionsFrom (sched : List Event) (pre : Bool) (g : BitVec 4) : Nat → Nat → List Event
  | _, 0 => []
  | i, n + 1 => repetition sched pre g i ++ repetitionsFrom sched pre g (i + 1) n

/-- The event sequence of a run whose message has the events `sched` (R190). -/
def transmitEvents (count : Nat) (sched : List Event) (pre : Bool) (g : BitVec 4) : List Event :=
  repetitionsFrom sched pre g 0 count

/-- `transmit(count, msg, pre, g)` (R190). -/
def transmit (count : Nat) (msg : List Byte) (pre : Bool) (g : BitVec 4) : List Event :=
  transmitEvents count (schedule msg) pre g

/-- The duration of a list of events in units of U (R162, R199). -/
def totalUnits (es : List Event) : Nat := (es.map (fun e => e.units.toNat)).sum

/-- The units of a list of events in which the output is ON (R162, R199). -/
def onUnits (es : List Event) : Nat := totalUnits (es.filter (fun e => e.level == .on))

end Sys2Proof.Machine
end

