-- ==== Sys2Proof/Machine/Ops.lean ====
section
/-! DEFINITION. The operations that the meanings share: the message RAM, the event sequence of a run, the end of a run and
the return from it, the machine's part of a clock cycle, the outputs, and the host's part (R211). -/

namespace Sys2Proof.Machine

open Sys2Proof

/-! ### The message RAM -/

/-- The byte listed at an index, if one is. -/
def Memory.read? : Memory → Nat → Option Byte
  | [], _ => none
  | (i, b) :: rest, a => if i = a then some b else Memory.read? rest a

/-- Write one byte, keeping the indices strictly rising. -/
def Memory.write : Memory → Nat → Byte → Memory
  | [], a, v => [(a, v)]
  | (i, b) :: rest, a, v =>
    if a < i then (a, v) :: (i, b) :: rest
    else if a = i then (a, v) :: rest
    else (i, b) :: Memory.write rest a v

/-- `MemRead(i, 1)`: byte `i` of the message RAM, an unknown byte where nothing was written since reset (R64, R310). -/
def State.msgByte (s : State) (i : Nat) : Byte :=
  match Memory.read? s.msg i with
  | some b => b
  | none => Config.unwrittenByte s.epoch i

/-- The host word of the message RAM that holds bytes `4*j` to `4*j + 3` (R62). -/
def State.msgWord (s : State) (j : Nat) : Word :=
  wordOfBytes (s.msgByte (4 * j)) (s.msgByte (4 * j + 1)) (s.msgByte (4 * j + 2)) (s.msgByte (4 * j + 3))

/-- `MemWrite(0x100 + 4*j, 4, d)` (R62). -/
def State.setMsgWord (j : Nat) (d : Word) (s : State) : State :=
  { s with
    msg :=
      Memory.write
        (Memory.write
          (Memory.write
            (Memory.write s.msg (4 * j) (wordByte d 0))
            (4 * j + 1) (wordByte d 1))
          (4 * j + 2) (wordByte d 2))
        (4 * j + 3) (wordByte d 3) }

/-- The message: bytes 0 to MSG_LEN - 1 of the message RAM (R30, R64). -/
def State.message (s : State) : List Byte := (List.range s.msgLen.toNat).map s.msgByte

/-! ### The event sequence of a run -/

/-- `E`, from the registers that are frozen while BUSY and the message's events (R25, R190). -/
def State.events (s : State) : List Event := transmitEvents s.count.toNat s.sched s.preEn s.repgap

/-- `E[i]`, if there is one. -/
def State.eventAt? (s : State) (i : Nat) : Option Event := s.events[i]?

/-- `units * UNIT_TICKS` in the 36 bits of `ticks_left`; the product never overflows (R217, R224). -/
def eventTicks (s : State) (e : Event) : BitVec 36 := e.units.setWidth 36 * s.unitTicks.setWidth 36

/-- The scheduler emits the events of one token (R150, R152, R157, R158). -/
def emitToken (t : Token) (s : State) : State := { s with sched := s.sched ++ tokenEvents t }

/-- The encoder looks one character up and the scheduler emits its token's events (R100, R150). -/
def emitChar (c : Byte) (s : State) : State := emitToken (encodeChar c) s

/-- The scheduler reads the message in increasing index and emits the events of every character (R64, R150). -/
def emitMessage (s : State) : State :=
  s.message.foldl (fun t c => emitChar c t) { s with sched := [] }

/-! ### The end of a run and the return from it: the keyer's exceptions (R278, R279) -/

/-- `finish(c)`: the run ends. Only the cause is saved (R223, R278). -/
def finish (c : Cause) (s : State) : State := { s.setCompletion c with mode := .ending }

/-- The return: END goes to IDLE (R215, R279). -/
def leaveEnd (s : State) : State := { s with mode := .idle }

/-! ### Part (a) of a clock cycle: the machine (R211) -/

/-- The last cycle of event `E[k]` (R214). -/
def boundary (s : State) : State :=
  match s.eventAt? (s.k + 1) with
  | some e =>
    if s.cancelPend then finish .cancelled s
    else { s with k := s.k + 1, ticksLeft := eventTicks s e }
  | none => finish .ok s

/-- `run_step`: the driver failure first, then the count down, then the boundary (R212, R213, R214, R277). No rule gives a
RUN cycle with `ticks_left` = 0 an effect, and none happens; R23 rules such a state out (log entry 7). -/
def runStep (s : State) : State :=
  if s.pins.drvFault then finish .driverFault s
  else if 1 < s.ticksLeft then { s with ticksLeft := s.ticksLeft - 1 }
  else if s.ticksLeft = 1 then boundary s
  else s

/-- Part (a), judged on `s` alone: IDLE holds, RUN runs, END leaves (R211, R215, R216). -/
def machinePart (s : State) : State :=
  match s.mode with
  | .idle => s
  | .run => runStep s
  | .ending => leaveEnd s

/-- Part (a) sets DONE in this cycle: `finish` is called, and only `finish` moves RUN to END (R220, R250). -/
def machineEnds (s : State) : Bool :=
  decide (s.mode = .run) && decide ((machinePart s).mode = .ending)

/-! ### The outputs of a clock cycle (R36) -/

/-- The present cycle is the first of event `e` (R257). -/
def firstCycleOf (s : State) (e : Event) : Bool :=
  decide (s.mode = .run) && decide (s.ticksLeft = eventTicks s e)

/-- The outputs in a cycle whose current event is `cur`, with no read: functions of the state alone (R36, R218, R219,
R220, R257). With no current event there is no level to be ON and no record (log entry 7). -/
def portsWith (s : State) (cur : Option Event) : Ports :=
  let diag := match cur with
    | some e => firstCycleOf s e && s.diagEn
    | none => false
  { led := match cur with
      | some e => decide (s.mode = .run) && decide (e.level = .on)
      | none => false
    ledOwn := decide (s.mode = .run)
    release := decide (s.mode = .ending)
    busy := s.busy
    hRdata := 0
    diagValid := diag
    diagLevel := match cur with
      | some e => diag && decide (e.level = .on)
      | none => false
    diagUnits := match cur with
      | some e => if diag then e.units else 0
      | none => 0
    diagKind := match cur with
      | some e => if diag then e.kind.code else 0
      | none => 0 }

/-- The outputs in the present cycle: the current event is `E[k]` (R218, R257). -/
def portsNow (s : State) : Ports := portsWith s (s.eventAt? s.k)

/-- Record the outputs that the cycle drove. -/
def State.drive (p : Ports) (s : State) : State := { s with ports := p }

/-! ### Clock cycles without reset (R211) -/

/-- A cycle with no host access. -/
def quietCycle (s : State) : State := (machinePart s).drive (portsNow s)

/-- A cycle with no host access in which the duration generator has event `e` on the output (R211, R218). -/
def eventCycle (e : Event) (s : State) : State := (machinePart s).drive (portsWith s (some e))

/-- A cycle with a read that returns `v`; a read changes no state (R241, R65). -/
def readCycle (v : Word) (s : State) : State := (machinePart s).drive { portsNow s with hRdata := v }

/-- A cycle with a write. The write is judged on the state `s` of the cycle and writes into the state that part (a) leaves
(R211, R68). -/
def writeCycle (write : State → State → State) (s : State) : State :=
  (write s (machinePart s)).drive (portsNow s)

/-! ### Part (b) of a clock cycle: the host's writes, judged on `s`, into `s'` -/

/-- A START whose event sequence is empty (R246). -/
def emptyRun (s : State) : State := finish .ok s

/-- START accepted (R244). -/
def acceptStart (s : State) : State :=
  let t := emitMessage { s.clearCompletion with cancelPend := false, k := 0 }
  match t.eventAt? 0 with
  | some e => { t with mode := .run, ticksLeft := eventTicks t e }
  | none => emptyRun t

/-- START refused (R245). -/
def refuseStart (s : State) : State := s.setCompletion .invalidArg

/-- The four checks of a START (R243, R271). -/
def startValid (s : State) : Bool :=
  decide (1 ≤ s.count.toNat) && decide (1 ≤ s.unitTicks.toNat) && decide (s.msgLen.toNat ≤ s.cfg.msgMax) &&
    decide (7 ≤ s.repgap.toNat)

/-- A START request, judged with the CTRL fields just written (R243). -/
def startRequest (s : State) : State := if startValid s then acceptStart s else refuseStart s

/-- The CTRL fields of a written word (R242). -/
def setCtrlFields (d : Word) (s : State) : State :=
  { s with preEn := ctrlPreEn d, diagEn := ctrlDiagEn d, repgap := ctrlRepgap d }

/-- A write of CTRL, with its START and CANCEL actions (R242, R247, R248, R249). -/
def writeCtrl (d : Word) (s s' : State) : State :=
  if s.mode = .idle then
    if ctrlStart d then startRequest (setCtrlFields d s') else setCtrlFields d s'
  else if ctrlCancel d && decide (s.mode = .run) then { s' with cancelPend := true }
  else s'

/-- A write of STATUS: DONE is cleared by a 1, in every mode, unless the run ends in this cycle (R250). -/
def writeStatus (d : Word) (s s' : State) : State :=
  if statusDoneW1C d && !machineEnds s then s'.clearDone else s'

/-- A write that is taken in IDLE only and ignored while BUSY (R255). -/
def writeIfIdle (set : State → State) (s s' : State) : State := if s.mode = .idle then set s' else s'

/-- A write of the message word at offset 0x100 + 4*j, if that is a word of the message RAM (R254, R256). -/
def writeMsg (j : BitVec 10) (d : Word) (s s' : State) : State :=
  if msgWordInRange s.cfg j then writeIfIdle (State.setMsgWord j.toNat d) s s' else s'

/-- A write to an unmapped offset is ignored in every mode (R256). -/
def writeNothing (_s s' : State) : State := s'

/-! ### Reads of the message window and of any offset (R241) -/

/-- The word at offset 0x100 + 4*j, or 0 beyond the message RAM (R241). -/
def readMsg (s : State) (j : BitVec 10) : Word := if msgWordInRange s.cfg j then s.msgWord j.toNat else 0

/-- `h_rdata` for a read of the word offset `4*o` (R241). -/
def windowWord (s : State) (o : BitVec 10) : Word :=
  match o.toNat with
  | 0 => ctrlWord s
  | 1 => statusWord s
  | 2 => countWord s
  | 3 => msgLenWord s
  | 4 => s.unitTicks
  | _ => if offsetMapped s.cfg o then readMsg s (o - 64) else 0

/-! ### Inputs and reset -/

/-- The word number of the access: `h_addr[11:2]` (R61). -/
def Pins.wordNumber (p : Pins) : BitVec 10 := p.hAddr.extractLsb' 2 10

/-- The 45-bit packed access of a cycle that has one (R87, R240). -/
def Pins.access? (p : Pins) : Option (BitVec 45) :=
  if p.hValid then some (BitVec.ofBool p.hWrite ++ p.hAddr ++ p.hWdata) else none

/-- The input ports of the cycle about to run: the head of `pending`, or quiet ports. -/
def State.sample (s : State) : State :=
  match s.pending with
  | [] => { s with pins := Pins.quiet }
  | p :: rest => { s with pins := p, pending := rest }

/-- The outputs of a cycle with `rst` = 1: they are still functions of the state at its start, and a read still returns
its word (R36, R210). -/
def resetPorts (s : State) : Ports :=
  { portsNow s with
    hRdata := if s.pins.hValid && !s.pins.hWrite then windowWord s s.pins.wordNumber else 0 }

/-- A cycle with `rst` = 1: the reset state, whatever the state and the other inputs are (R300, R301, R302). The message RAM
is not reset but becomes unknown, so the next epoch's bytes stand in it (log entry 2). The model's own fields that are
no state of the keyer (inputs to come, build) stay. -/
def resetCycle (s : State) : State :=
  { State.reset with
    ports := resetPorts s
    pins := s.pins
    pending := s.pending
    epoch := s.epoch + 1
    cfg := s.cfg }

/-! ### Time in seconds (R8, R227) -/

/-- The seconds that a number of cycles takes (R227). -/
def cyclesToSeconds (cfg : Config) (cycles : Nat) : Rat := (cycles : Rat) / (cfg.fClk : Rat)

/-- The seconds that an event lasts when it is not cut short: `n * UNIT_TICKS / F_CLK` (R8). -/
def eventSeconds (s : State) (e : Event) : Rat := cyclesToSeconds s.cfg (eventTicks s e).toNat

end Sys2Proof.Machine
end

