-- ==== Sys2Proof/Machine/Characters.lean ====
section
/-! DEFINITION. The meanings of the character codes: the encoder looks the code up in the ROM and the scheduler emits the
events of its token. The encoder is combinational, so no clock cycle passes, and no flag is written (R100 to R142, R150). -/

namespace Sys2Proof.Machine

open Sys2Proof

/-- CHAR_A: a LETTER of 2 symbols (R105, R152). -/
def execCharA (s : State) : Host.Outcome State Fault Refusal := .next (emitChar 0x41 s)
/-- CHAR_B: a LETTER of 4 symbols (R106, R152). -/
def execCharB (s : State) : Host.Outcome State Fault Refusal := .next (emitChar 0x42 s)
/-- CHAR_C: a LETTER of 4 symbols (R107, R152). -/
def execCharC (s : State) : Host.Outcome State Fault Refusal := .next (emitChar 0x43 s)
/-- CHAR_D: a LETTER of 3 symbols (R108, R152). -/
def execCharD (s : State) : Host.Outcome State Fault Refusal := .next (emitChar 0x44 s)
/-- CHAR_E: a LETTER of 1 symbol (R109, R152). -/
def execCharE (s : State) : Host.Outcome State Fault Refusal := .next (emitChar 0x45 s)
/-- CHAR_F: a LETTER of 4 symbols (R110, R152). -/
def execCharF (s : State) : Host.Outcome State Fault Refusal := .next (emitChar 0x46 s)
/-- CHAR_G: a LETTER of 3 symbols (R111, R152). -/
def execCharG (s : State) : Host.Outcome State Fault Refusal := .next (emitChar 0x47 s)
/-- CHAR_H: a LETTER of 4 symbols (R112, R152). -/
def execCharH (s : State) : Host.Outcome State Fault Refusal := .next (emitChar 0x48 s)
/-- CHAR_I: a LETTER of 2 symbols (R113, R152). -/
def execCharI (s : State) : Host.Outcome State Fault Refusal := .next (emitChar 0x49 s)
/-- CHAR_J: a LETTER of 4 symbols (R114, R152). -/
def execCharJ (s : State) : Host.Outcome State Fault Refusal := .next (emitChar 0x4A s)
/-- CHAR_K: a LETTER of 3 symbols (R115, R152). -/
def execCharK (s : State) : Host.Outcome State Fault Refusal := .next (emitChar 0x4B s)
/-- CHAR_L: a LETTER of 4 symbols (R116, R152). -/
def execCharL (s : State) : Host.Outcome State Fault Refusal := .next (emitChar 0x4C s)
/-- CHAR_M: a LETTER of 2 symbols (R117, R152). -/
def execCharM (s : State) : Host.Outcome State Fault Refusal := .next (emitChar 0x4D s)
/-- CHAR_N: a LETTER of 2 symbols (R118, R152). -/
def execCharN (s : State) : Host.Outcome State Fault Refusal := .next (emitChar 0x4E s)
/-- CHAR_O: a LETTER of 3 symbols (R119, R152). -/
def execCharO (s : State) : Host.Outcome State Fault Refusal := .next (emitChar 0x4F s)
/-- CHAR_P: a LETTER of 4 symbols (R120, R152). -/
def execCharP (s : State) : Host.Outcome State Fault Refusal := .next (emitChar 0x50 s)
/-- CHAR_Q: a LETTER of 4 symbols (R121, R152). -/
def execCharQ (s : State) : Host.Outcome State Fault Refusal := .next (emitChar 0x51 s)
/-- CHAR_R: a LETTER of 3 symbols (R122, R152). -/
def execCharR (s : State) : Host.Outcome State Fault Refusal := .next (emitChar 0x52 s)
/-- CHAR_S: a LETTER of 3 symbols (R123, R152). -/
def execCharS (s : State) : Host.Outcome State Fault Refusal := .next (emitChar 0x53 s)
/-- CHAR_T: a LETTER of 1 symbol (R124, R152). -/
def execCharT (s : State) : Host.Outcome State Fault Refusal := .next (emitChar 0x54 s)
/-- CHAR_U: a LETTER of 3 symbols (R125, R152). -/
def execCharU (s : State) : Host.Outcome State Fault Refusal := .next (emitChar 0x55 s)
/-- CHAR_V: a LETTER of 4 symbols (R126, R152). -/
def execCharV (s : State) : Host.Outcome State Fault Refusal := .next (emitChar 0x56 s)
/-- CHAR_W: a LETTER of 3 symbols (R127, R152). -/
def execCharW (s : State) : Host.Outcome State Fault Refusal := .next (emitChar 0x57 s)
/-- CHAR_X: a LETTER of 4 symbols (R128, R152). -/
def execCharX (s : State) : Host.Outcome State Fault Refusal := .next (emitChar 0x58 s)
/-- CHAR_Y: a LETTER of 4 symbols (R129, R152). -/
def execCharY (s : State) : Host.Outcome State Fault Refusal := .next (emitChar 0x59 s)
/-- CHAR_Z: a LETTER of 4 symbols (R130, R152). -/
def execCharZ (s : State) : Host.Outcome State Fault Refusal := .next (emitChar 0x5A s)
/-- CHAR_0: a LETTER of 5 symbols (R131, R152). -/
def execChar0 (s : State) : Host.Outcome State Fault Refusal := .next (emitChar 0x30 s)
/-- CHAR_1: a LETTER of 5 symbols (R132, R152). -/
def execChar1 (s : State) : Host.Outcome State Fault Refusal := .next (emitChar 0x31 s)
/-- CHAR_2: a LETTER of 5 symbols (R133, R152). -/
def execChar2 (s : State) : Host.Outcome State Fault Refusal := .next (emitChar 0x32 s)
/-- CHAR_3: a LETTER of 5 symbols (R134, R152). -/
def execChar3 (s : State) : Host.Outcome State Fault Refusal := .next (emitChar 0x33 s)
/-- CHAR_4: a LETTER of 5 symbols (R135, R152). -/
def execChar4 (s : State) : Host.Outcome State Fault Refusal := .next (emitChar 0x34 s)
/-- CHAR_5: a LETTER of 5 symbols (R136, R152). -/
def execChar5 (s : State) : Host.Outcome State Fault Refusal := .next (emitChar 0x35 s)
/-- CHAR_6: a LETTER of 5 symbols (R137, R152). -/
def execChar6 (s : State) : Host.Outcome State Fault Refusal := .next (emitChar 0x36 s)
/-- CHAR_7: a LETTER of 5 symbols (R138, R152). -/
def execChar7 (s : State) : Host.Outcome State Fault Refusal := .next (emitChar 0x37 s)
/-- CHAR_8: a LETTER of 5 symbols (R139, R152). -/
def execChar8 (s : State) : Host.Outcome State Fault Refusal := .next (emitChar 0x38 s)
/-- CHAR_9: a LETTER of 5 symbols (R140, R152). -/
def execChar9 (s : State) : Host.Outcome State Fault Refusal := .next (emitChar 0x39 s)
/-- CHAR_a: folds to 0x41 (R141, R101). -/
def execCharLowerA (s : State) : Host.Outcome State Fault Refusal := .next (emitChar 0x61 s)
/-- CHAR_b: folds to 0x42 (R141, R101). -/
def execCharLowerB (s : State) : Host.Outcome State Fault Refusal := .next (emitChar 0x62 s)
/-- CHAR_c: folds to 0x43 (R141, R101). -/
def execCharLowerC (s : State) : Host.Outcome State Fault Refusal := .next (emitChar 0x63 s)
/-- CHAR_d: folds to 0x44 (R141, R101). -/
def execCharLowerD (s : State) : Host.Outcome State Fault Refusal := .next (emitChar 0x64 s)
/-- CHAR_e: folds to 0x45 (R141, R101). -/
def execCharLowerE (s : State) : Host.Outcome State Fault Refusal := .next (emitChar 0x65 s)
/-- CHAR_f: folds to 0x46 (R141, R101). -/
def execCharLowerF (s : State) : Host.Outcome State Fault Refusal := .next (emitChar 0x66 s)
/-- CHAR_g: folds to 0x47 (R141, R101). -/
def execCharLowerG (s : State) : Host.Outcome State Fault Refusal := .next (emitChar 0x67 s)
/-- CHAR_h: folds to 0x48 (R141, R101). -/
def execCharLowerH (s : State) : Host.Outcome State Fault Refusal := .next (emitChar 0x68 s)
/-- CHAR_i: folds to 0x49 (R141, R101). -/
def execCharLowerI (s : State) : Host.Outcome State Fault Refusal := .next (emitChar 0x69 s)
/-- CHAR_j: folds to 0x4A (R141, R101). -/
def execCharLowerJ (s : State) : Host.Outcome State Fault Refusal := .next (emitChar 0x6A s)
/-- CHAR_k: folds to 0x4B (R141, R101). -/
def execCharLowerK (s : State) : Host.Outcome State Fault Refusal := .next (emitChar 0x6B s)
/-- CHAR_l: folds to 0x4C (R141, R101). -/
def execCharLowerL (s : State) : Host.Outcome State Fault Refusal := .next (emitChar 0x6C s)
/-- CHAR_m: folds to 0x4D (R141, R101). -/
def execCharLowerM (s : State) : Host.Outcome State Fault Refusal := .next (emitChar 0x6D s)
/-- CHAR_n: folds to 0x4E (R141, R101). -/
def execCharLowerN (s : State) : Host.Outcome State Fault Refusal := .next (emitChar 0x6E s)
/-- CHAR_o: folds to 0x4F (R141, R101). -/
def execCharLowerO (s : State) : Host.Outcome State Fault Refusal := .next (emitChar 0x6F s)
/-- CHAR_p: folds to 0x50 (R141, R101). -/
def execCharLowerP (s : State) : Host.Outcome State Fault Refusal := .next (emitChar 0x70 s)
/-- CHAR_q: folds to 0x51 (R141, R101). -/
def execCharLowerQ (s : State) : Host.Outcome State Fault Refusal := .next (emitChar 0x71 s)
/-- CHAR_r: folds to 0x52 (R141, R101). -/
def execCharLowerR (s : State) : Host.Outcome State Fault Refusal := .next (emitChar 0x72 s)
/-- CHAR_s: folds to 0x53 (R141, R101). -/
def execCharLowerS (s : State) : Host.Outcome State Fault Refusal := .next (emitChar 0x73 s)
/-- CHAR_t: folds to 0x54 (R141, R101). -/
def execCharLowerT (s : State) : Host.Outcome State Fault Refusal := .next (emitChar 0x74 s)
/-- CHAR_u: folds to 0x55 (R141, R101). -/
def execCharLowerU (s : State) : Host.Outcome State Fault Refusal := .next (emitChar 0x75 s)
/-- CHAR_v: folds to 0x56 (R141, R101). -/
def execCharLowerV (s : State) : Host.Outcome State Fault Refusal := .next (emitChar 0x76 s)
/-- CHAR_w: folds to 0x57 (R141, R101). -/
def execCharLowerW (s : State) : Host.Outcome State Fault Refusal := .next (emitChar 0x77 s)
/-- CHAR_x: folds to 0x58 (R141, R101). -/
def execCharLowerX (s : State) : Host.Outcome State Fault Refusal := .next (emitChar 0x78 s)
/-- CHAR_y: folds to 0x59 (R141, R101). -/
def execCharLowerY (s : State) : Host.Outcome State Fault Refusal := .next (emitChar 0x79 s)
/-- CHAR_z: folds to 0x5A (R141, R101). -/
def execCharLowerZ (s : State) : Host.Outcome State Fault Refusal := .next (emitChar 0x7A s)
/-- CHAR_SPACE: WORD_GAP (R104, R157). -/
def execCharSpace (s : State) : Host.Outcome State Fault Refusal := .next (emitChar 0x20 s)
/-- CHAR_UNKNOWN_00_1F: UNKNOWN, no event (R103, R158). -/
def execCharUnknown00_1F (low : BitVec 5) (s : State) : Host.Outcome State Fault Refusal := .next (emitChar (unknownCode 0x00 low) s)
/-- CHAR_UNKNOWN_21_21: UNKNOWN, no event (R103, R158). -/
def execCharUnknown21_21 (s : State) : Host.Outcome State Fault Refusal := .next (emitChar 0x21 s)
/-- CHAR_UNKNOWN_22_23: UNKNOWN, no event (R103, R158). -/
def execCharUnknown22_23 (low : BitVec 1) (s : State) : Host.Outcome State Fault Refusal := .next (emitChar (unknownCode 0x22 low) s)
/-- CHAR_UNKNOWN_24_27: UNKNOWN, no event (R103, R158). -/
def execCharUnknown24_27 (low : BitVec 2) (s : State) : Host.Outcome State Fault Refusal := .next (emitChar (unknownCode 0x24 low) s)
/-- CHAR_UNKNOWN_28_2F: UNKNOWN, no event (R103, R158). -/
def execCharUnknown28_2F (low : BitVec 3) (s : State) : Host.Outcome State Fault Refusal := .next (emitChar (unknownCode 0x28 low) s)
/-- CHAR_UNKNOWN_3A_3B: UNKNOWN, no event (R103, R158). -/
def execCharUnknown3A_3B (low : BitVec 1) (s : State) : Host.Outcome State Fault Refusal := .next (emitChar (unknownCode 0x3A low) s)
/-- CHAR_UNKNOWN_3C_3F: UNKNOWN, no event (R103, R158). -/
def execCharUnknown3C_3F (low : BitVec 2) (s : State) : Host.Outcome State Fault Refusal := .next (emitChar (unknownCode 0x3C low) s)
/-- CHAR_UNKNOWN_40_40: UNKNOWN, no event (R103, R158). -/
def execCharUnknown40_40 (s : State) : Host.Outcome State Fault Refusal := .next (emitChar 0x40 s)
/-- CHAR_UNKNOWN_5B_5B: UNKNOWN, no event (R103, R158). -/
def execCharUnknown5B_5B (s : State) : Host.Outcome State Fault Refusal := .next (emitChar 0x5B s)
/-- CHAR_UNKNOWN_5C_5F: UNKNOWN, no event (R103, R158). -/
def execCharUnknown5C_5F (low : BitVec 2) (s : State) : Host.Outcome State Fault Refusal := .next (emitChar (unknownCode 0x5C low) s)
/-- CHAR_UNKNOWN_60_60: UNKNOWN, no event (R103, R158). -/
def execCharUnknown60_60 (s : State) : Host.Outcome State Fault Refusal := .next (emitChar 0x60 s)
/-- CHAR_UNKNOWN_7B_7B: UNKNOWN, no event (R103, R158). -/
def execCharUnknown7B_7B (s : State) : Host.Outcome State Fault Refusal := .next (emitChar 0x7B s)
/-- CHAR_UNKNOWN_7C_7F: UNKNOWN, no event (R103, R158). -/
def execCharUnknown7C_7F (low : BitVec 2) (s : State) : Host.Outcome State Fault Refusal := .next (emitChar (unknownCode 0x7C low) s)
/-- CHAR_UNKNOWN_80_FF: UNKNOWN, no event (R103, R158). -/
def execCharUnknown80_FF (low : BitVec 7) (s : State) : Host.Outcome State Fault Refusal := .next (emitChar (unknownCode 0x80 low) s)

end Sys2Proof.Machine
end

