-- ==== Sys2Proof/Machine/Events.lean ====
section
/-! DEFINITION. The meanings of the event records: one clock cycle of the duration generator with that event on the output
and no host access (R211 to R228). The event lasts `units * UNIT_TICKS` such cycles (R217). -/

namespace Sys2Proof.Machine

open Sys2Proof

/-- EV_DOT: ON for 1 unit (R153). -/
def execEvDot (s : State) : Host.Outcome State Fault Refusal := .next (eventCycle dotEvent s)
/-- EV_DASH: ON for 3 units (R154). -/
def execEvDash (s : State) : Host.Outcome State Fault Refusal := .next (eventCycle dashEvent s)
/-- EV_SYMGAP: OFF for 1 unit (R155). -/
def execEvSymgap (s : State) : Host.Outcome State Fault Refusal := .next (eventCycle symgapEvent s)
/-- EV_LETTERGAP: OFF for 3 units (R156). -/
def execEvLettergap (s : State) : Host.Outcome State Fault Refusal := .next (eventCycle lettergapEvent s)
/-- EV_WORDGAP: OFF for 7 units (R157). -/
def execEvWordgap (s : State) : Host.Outcome State Fault Refusal := .next (eventCycle wordgapEvent s)
/-- EV_PRE_SETTLE: OFF for 5 units (R180). -/
def execEvPreSettle (s : State) : Host.Outcome State Fault Refusal := .next (eventCycle preSettleEvent s)
/-- EV_PRE_DOT: ON for 1 unit (R180). -/
def execEvPreDot (s : State) : Host.Outcome State Fault Refusal := .next (eventCycle preDotEvent s)
/-- EV_PRE_GAP: OFF for 1 unit (R180). -/
def execEvPreGap (s : State) : Host.Outcome State Fault Refusal := .next (eventCycle preGapEvent s)
/-- EV_PRE_SEP: OFF for 3 units (R180). -/
def execEvPreSep (s : State) : Host.Outcome State Fault Refusal := .next (eventCycle preSepEvent s)
/-- EV_REPGAP: OFF for `g` units (R191). -/
def execEvRepgap (g : BitVec 4) (s : State) : Host.Outcome State Fault Refusal := .next (eventCycle (repgapEvent g) s)

end Sys2Proof.Machine
end

