-- ==== Sys2Proof/Machine/HostReads.lean ====
section
/-! DEFINITION. The meanings of the host reads: one clock cycle in which the host reads a word; part (a) of the cycle runs as
without the read (R65, R211, R241). -/

namespace Sys2Proof.Machine

open Sys2Proof

/-- RD_REG_CTRL: reads CTRL (R27). -/
def execRdRegCtrl (s : State) : Host.Outcome State Fault Refusal := .next (readCycle (ctrlWord s) s)
/-- RD_REG_STATUS: reads STATUS (R28). -/
def execRdRegStatus (s : State) : Host.Outcome State Fault Refusal := .next (readCycle (statusWord s) s)
/-- RD_REG_COUNT: reads COUNT (R29). -/
def execRdRegCount (s : State) : Host.Outcome State Fault Refusal := .next (readCycle (countWord s) s)
/-- RD_REG_MSG_LEN: reads MSG_LEN (R30). -/
def execRdRegMsgLen (s : State) : Host.Outcome State Fault Refusal := .next (readCycle (msgLenWord s) s)
/-- RD_REG_UNIT_TICKS: reads UNIT_TICKS (R31). -/
def execRdRegUnitTicks (s : State) : Host.Outcome State Fault Refusal := .next (readCycle s.unitTicks s)
/-- RD_MSG: reads the message word at 0x100 + 4*j, in every mode (R62). -/
def execRdMsg (j : BitVec 10) (s : State) : Host.Outcome State Fault Refusal := .next (readCycle (readMsg s j) s)
/-- RD_UNMAPPED: reads 0 (R66). -/
def execRdUnmapped (_o : BitVec 10) (s : State) : Host.Outcome State Fault Refusal := .next (readCycle 0 s)

end Sys2Proof.Machine
end

