-- ==== Sys2Proof/Machine/HostWrites.lean ====
section
/-! DEFINITION. The meanings of the host writes: one clock cycle in which the host writes a word (R211, R242 to R256). -/

namespace Sys2Proof.Machine

open Sys2Proof

/-- WR_CTRL: writes the configuration bits, and the actions its data carries (R242). -/
def execWrCtrl (d : Word) (s : State) : Host.Outcome State Fault Refusal :=
  .next (writeCycle (writeCtrl d) s)
/-- START: a CTRL write whose action bit 0 requests a run when IDLE (R243 to R247). -/
def execStart (d : Word) (s : State) : Host.Outcome State Fault Refusal :=
  .next (writeCycle (writeCtrl d) s)
/-- CANCEL: a CTRL write whose action bit 1 requests cancellation when RUN (R248, R249). -/
def execCancel (d : Word) (s : State) : Host.Outcome State Fault Refusal :=
  .next (writeCycle (writeCtrl d) s)
/-- WR_STATUS: writes DONE, write 1 to clear (R250). -/
def execWrStatus (d : Word) (s : State) : Host.Outcome State Fault Refusal :=
  .next (writeCycle (writeStatus d) s)
/-- WR_COUNT: writes COUNT, in IDLE only (R251). -/
def execWrCount (d : Word) (s : State) : Host.Outcome State Fault Refusal :=
  .next (writeCycle (writeIfIdle fun t => { t with count := countValue d }) s)
/-- WR_MSG_LEN: writes MSG_LEN, in IDLE only (R252). -/
def execWrMsgLen (d : Word) (s : State) : Host.Outcome State Fault Refusal :=
  .next (writeCycle (writeIfIdle fun t => { t with msgLen := msgLenValue d }) s)
/-- WR_UNIT_TICKS: writes UNIT_TICKS, in IDLE only (R253). -/
def execWrUnitTicks (d : Word) (s : State) : Host.Outcome State Fault Refusal :=
  .next (writeCycle (writeIfIdle fun t => { t with unitTicks := d }) s)
/-- WR_MSG: writes four message bytes, in IDLE only (R254). -/
def execWrMsg (j : BitVec 10) (d : Word) (s : State) : Host.Outcome State Fault Refusal :=
  .next (writeCycle (writeMsg j d) s)
/-- WR_UNMAPPED: writes nothing, in every mode (R256). -/
def execWrUnmapped (_o : BitVec 10) (_d : Word) (s : State) : Host.Outcome State Fault Refusal :=
  .next (writeCycle writeNothing s)

end Sys2Proof.Machine
end

