-- ==== Sys2Proof/Machine/Dispatch.lean ====
section
/-! DEFINITION. The dispatch: one arm for each instruction, each one direct call of its meaning. -/

namespace Sys2Proof.Machine

open Sys2Proof

def exec (i : Instr) (s : State) : Host.Outcome State Fault Refusal :=
  match i with
  | .charA => Sys2Proof.Machine.execCharA s
  | .charB => Sys2Proof.Machine.execCharB s
  | .charC => Sys2Proof.Machine.execCharC s
  | .charD => Sys2Proof.Machine.execCharD s
  | .charE => Sys2Proof.Machine.execCharE s
  | .charF => Sys2Proof.Machine.execCharF s
  | .charG => Sys2Proof.Machine.execCharG s
  | .charH => Sys2Proof.Machine.execCharH s
  | .charI => Sys2Proof.Machine.execCharI s
  | .charJ => Sys2Proof.Machine.execCharJ s
  | .charK => Sys2Proof.Machine.execCharK s
  | .charL => Sys2Proof.Machine.execCharL s
  | .charM => Sys2Proof.Machine.execCharM s
  | .charN => Sys2Proof.Machine.execCharN s
  | .charO => Sys2Proof.Machine.execCharO s
  | .charP => Sys2Proof.Machine.execCharP s
  | .charQ => Sys2Proof.Machine.execCharQ s
  | .charR => Sys2Proof.Machine.execCharR s
  | .charS => Sys2Proof.Machine.execCharS s
  | .charT => Sys2Proof.Machine.execCharT s
  | .charU => Sys2Proof.Machine.execCharU s
  | .charV => Sys2Proof.Machine.execCharV s
  | .charW => Sys2Proof.Machine.execCharW s
  | .charX => Sys2Proof.Machine.execCharX s
  | .charY => Sys2Proof.Machine.execCharY s
  | .charZ => Sys2Proof.Machine.execCharZ s
  | .char0 => Sys2Proof.Machine.execChar0 s
  | .char1 => Sys2Proof.Machine.execChar1 s
  | .char2 => Sys2Proof.Machine.execChar2 s
  | .char3 => Sys2Proof.Machine.execChar3 s
  | .char4 => Sys2Proof.Machine.execChar4 s
  | .char5 => Sys2Proof.Machine.execChar5 s
  | .char6 => Sys2Proof.Machine.execChar6 s
  | .char7 => Sys2Proof.Machine.execChar7 s
  | .char8 => Sys2Proof.Machine.execChar8 s
  | .char9 => Sys2Proof.Machine.execChar9 s
  | .charLowerA => Sys2Proof.Machine.execCharLowerA s
  | .charLowerB => Sys2Proof.Machine.execCharLowerB s
  | .charLowerC => Sys2Proof.Machine.execCharLowerC s
  | .charLowerD => Sys2Proof.Machine.execCharLowerD s
  | .charLowerE => Sys2Proof.Machine.execCharLowerE s
  | .charLowerF => Sys2Proof.Machine.execCharLowerF s
  | .charLowerG => Sys2Proof.Machine.execCharLowerG s
  | .charLowerH => Sys2Proof.Machine.execCharLowerH s
  | .charLowerI => Sys2Proof.Machine.execCharLowerI s
  | .charLowerJ => Sys2Proof.Machine.execCharLowerJ s
  | .charLowerK => Sys2Proof.Machine.execCharLowerK s
  | .charLowerL => Sys2Proof.Machine.execCharLowerL s
  | .charLowerM => Sys2Proof.Machine.execCharLowerM s
  | .charLowerN => Sys2Proof.Machine.execCharLowerN s
  | .charLowerO => Sys2Proof.Machine.execCharLowerO s
  | .charLowerP => Sys2Proof.Machine.execCharLowerP s
  | .charLowerQ => Sys2Proof.Machine.execCharLowerQ s
  | .charLowerR => Sys2Proof.Machine.execCharLowerR s
  | .charLowerS => Sys2Proof.Machine.execCharLowerS s
  | .charLowerT => Sys2Proof.Machine.execCharLowerT s
  | .charLowerU => Sys2Proof.Machine.execCharLowerU s
  | .charLowerV => Sys2Proof.Machine.execCharLowerV s
  | .charLowerW => Sys2Proof.Machine.execCharLowerW s
  | .charLowerX => Sys2Proof.Machine.execCharLowerX s
  | .charLowerY => Sys2Proof.Machine.execCharLowerY s
  | .charLowerZ => Sys2Proof.Machine.execCharLowerZ s
  | .charSpace => Sys2Proof.Machine.execCharSpace s
  | .charUnknown00_1F low => Sys2Proof.Machine.execCharUnknown00_1F low s
  | .charUnknown21_21 => Sys2Proof.Machine.execCharUnknown21_21 s
  | .charUnknown22_23 low => Sys2Proof.Machine.execCharUnknown22_23 low s
  | .charUnknown24_27 low => Sys2Proof.Machine.execCharUnknown24_27 low s
  | .charUnknown28_2F low => Sys2Proof.Machine.execCharUnknown28_2F low s
  | .charUnknown3A_3B low => Sys2Proof.Machine.execCharUnknown3A_3B low s
  | .charUnknown3C_3F low => Sys2Proof.Machine.execCharUnknown3C_3F low s
  | .charUnknown40_40 => Sys2Proof.Machine.execCharUnknown40_40 s
  | .charUnknown5B_5B => Sys2Proof.Machine.execCharUnknown5B_5B s
  | .charUnknown5C_5F low => Sys2Proof.Machine.execCharUnknown5C_5F low s
  | .charUnknown60_60 => Sys2Proof.Machine.execCharUnknown60_60 s
  | .charUnknown7B_7B => Sys2Proof.Machine.execCharUnknown7B_7B s
  | .charUnknown7C_7F low => Sys2Proof.Machine.execCharUnknown7C_7F low s
  | .charUnknown80_FF low => Sys2Proof.Machine.execCharUnknown80_FF low s
  | .evDot => Sys2Proof.Machine.execEvDot s
  | .evDash => Sys2Proof.Machine.execEvDash s
  | .evSymgap => Sys2Proof.Machine.execEvSymgap s
  | .evLettergap => Sys2Proof.Machine.execEvLettergap s
  | .evWordgap => Sys2Proof.Machine.execEvWordgap s
  | .evPreSettle => Sys2Proof.Machine.execEvPreSettle s
  | .evPreDot => Sys2Proof.Machine.execEvPreDot s
  | .evPreGap => Sys2Proof.Machine.execEvPreGap s
  | .evPreSep => Sys2Proof.Machine.execEvPreSep s
  | .evRepgap g => Sys2Proof.Machine.execEvRepgap g s
  | .rdRegCtrl => Sys2Proof.Machine.execRdRegCtrl s
  | .rdRegStatus => Sys2Proof.Machine.execRdRegStatus s
  | .rdRegCount => Sys2Proof.Machine.execRdRegCount s
  | .rdRegMsgLen => Sys2Proof.Machine.execRdRegMsgLen s
  | .rdRegUnitTicks => Sys2Proof.Machine.execRdRegUnitTicks s
  | .rdMsg j => Sys2Proof.Machine.execRdMsg j s
  | .rdUnmapped o => Sys2Proof.Machine.execRdUnmapped o s
  | .wrCtrl d => Sys2Proof.Machine.execWrCtrl d s
  | .start d => Sys2Proof.Machine.execStart d s
  | .cancel d => Sys2Proof.Machine.execCancel d s
  | .wrStatus d => Sys2Proof.Machine.execWrStatus d s
  | .wrCount d => Sys2Proof.Machine.execWrCount d s
  | .wrMsgLen d => Sys2Proof.Machine.execWrMsgLen d s
  | .wrUnitTicks d => Sys2Proof.Machine.execWrUnitTicks d s
  | .wrMsg j d => Sys2Proof.Machine.execWrMsg j d s
  | .wrUnmapped o d => Sys2Proof.Machine.execWrUnmapped o d s

end Sys2Proof.Machine
end

