-- ==== Sys2Proof/Machine/Step.lean ====
section
/-! DEFINITION. One step of the machine: one clock cycle (R210, R211). -/

namespace Sys2Proof.Machine

open Sys2Proof

/-- The frame that the present cycle runs: the host's access when there is one (its meaning runs the machine's part of the
cycle too), else the event record on the output while RUN, else nothing (R211, R240). -/
def fetch (s : State) : Option Frame :=
  match s.pins.access? with
  | some w => some (.host45 w)
  | none => if s.mode = .run then (s.eventAt? s.k).map (fun e => .event9 e.pack) else none

/-- One clock cycle: sample the input ports; with `rst` = 1 reset; else run the instruction of the cycle, or a quiet cycle
where there is none (R211, R300). -/
def step (s : State) : Host.Outcome State Fault Refusal :=
  let t := s.sample
  if t.pins.rst then .next (resetCycle t)
  else
    match fetch t with
    | none => .next (quietCycle t)
    | some f =>
      match decode t.cfg f with
      | .ok i => exec i t
      | .error e => .refused (.reservedEvent e)

/-- The event that a decoded event instruction stands for. -/
def eventOfInstr : Instr → Option Event
  | .evDot => some dotEvent
  | .evDash => some dashEvent
  | .evSymgap => some symgapEvent
  | .evLettergap => some lettergapEvent
  | .evWordgap => some wordgapEvent
  | .evPreSettle => some preSettleEvent
  | .evPreDot => some preDotEvent
  | .evPreGap => some preGapEvent
  | .evPreSep => some preSepEvent
  | .evRepgap g => some (repgapEvent g)
  | _ => none

/-- Place a host access in the next cycle. -/
def State.withAccess (s : State) (w : BitVec 45) : State :=
  { s with
    pending :=
      { Pins.quiet with
        hValid := true
        hWrite := w[44]
        hAddr := w.extractLsb' 32 12
        hWdata := w.extractLsb' 0 32 } :: s.pending }

/-- Put an event on the output: a run of one repetition whose events are that event alone, in the event's first cycle, and
a next cycle with no host access. -/
def State.withEvent (s : State) (e : Event) : State :=
  let t : State :=
    { s with
      mode := .run
      k := 0
      sched := [e]
      count := 1
      preEn := false
      unitTicks := if s.unitTicks = 0 then 1 else s.unitTicks
      pending := Pins.quiet :: s.pending }
  { t with ticksLeft := eventTicks t e }

/-- Make a character the whole message, with every other setting of a START valid, and START it in the next cycle: that is
the cycle in which the scheduler reads the message (R244). -/
def State.withCharacter (s : State) (c : Byte) : State :=
  State.withAccess
    { s with
      mode := .idle
      msg := Memory.write s.msg 0 c
      msgLen := 1
      count := 1
      unitTicks := if s.unitTicks = 0 then 1 else s.unitTicks }
    0x100000000701

/-- `s` with the instruction of a table word placed where `step` takes its next instruction from (log entry 8): a host
access on the bus of the next cycle, an event record on the output, a character as the message that the next cycle
starts. A word that is no instruction leaves `s` as it is. -/
def State.withFetchWord (s : State) (nbits w : Nat) : State :=
  match frameOfTableWord nbits w with
  | some (.char8 c) => s.withCharacter c
  | some (.event9 r) =>
    match decodeEvent r with
    | .ok i =>
      match eventOfInstr i with
      | some e => s.withEvent e
      | none => s
    | .error _ => s
  | some (.host45 a) => s.withAccess a
  | none => s

end Sys2Proof.Machine
end

