-- ==== Sys2Proof/Machine/HostProgram.lean ====
section
/-! DEFINITION. The host's side: the notation of host programs, its one pseudo-instruction, and the start-up sequence (R9,
R92, R93, R304). No step reads this file: it says what inputs a host program gives the machine, in cycles with `rst` = 0 and
`drv_fault` = 0 (log entry 22). -/

namespace Sys2Proof.Machine

open Sys2Proof

/-- One line of a host program (R92). -/
inductive HostLine
  /-- `WR off, data`: one write. -/
  | wr (off : BitVec 12) (data : Word)
  /-- `RD off`: one read. -/
  | rd (off : BitVec 12)
  /-- `NOP n`: `n` cycles with no access. -/
  | nop (n : Nat)
  /-- `POLL off, mask, value`: one read a cycle until the masked result is `value`; that last read is included. -/
  | poll (off : BitVec 12) (mask value : Word)
deriving DecidableEq, Repr

/-- The inputs of a cycle with one write. -/
def writePins (off : BitVec 12) (d : Word) : Pins :=
  { Pins.quiet with hValid := true, hWrite := true, hAddr := off, hWdata := d }

/-- The inputs of a cycle with one read. -/
def readPins (off : BitVec 12) : Pins := { Pins.quiet with hValid := true, hAddr := off }

/-- One cycle in which the input ports have the levels `p`, before the inputs that already wait. -/
def cycleWith (p : Pins) (s : State) : Host.Outcome State Fault Refusal := step { s with pending := p :: s.pending }

/-- One line run from `s` to `t`, in as many cycles as R92 gives it. R92 and R9 fix the host access of each cycle only.
DESIGN CHOICE, log entry 22: `rst` and `drv_fault` are 0 in every cycle of a line, so a program with a reset or a driver
failure in it (P5, V-R3) is no run of lines; `State.pending` holds its inputs. -/
inductive HostLine.Runs : HostLine → State → State → Prop
  | wr {off d s t} : cycleWith (writePins off d) s = .next t → HostLine.Runs (.wr off d) s t
  | rd {off s t} : cycleWith (readPins off) s = .next t → HostLine.Runs (.rd off) s t
  | nopEnd {s} : HostLine.Runs (.nop 0) s s
  | nopCycle {n s t u} : cycleWith Pins.quiet s = .next t → HostLine.Runs (.nop n) t u → HostLine.Runs (.nop (n + 1)) s u
  | pollEnd {off mask value s t} : cycleWith (readPins off) s = .next t → t.ports.hRdata &&& mask = value →
      HostLine.Runs (.poll off mask value) s t
  | pollAgain {off mask value s t u} : cycleWith (readPins off) s = .next t → t.ports.hRdata &&& mask ≠ value →
      HostLine.Runs (.poll off mask value) t u → HostLine.Runs (.poll off mask value) s u

/-- A host program: its lines in order. -/
abbrev HostProgram := List HostLine

/-- A program run from `s` to `t`: its lines in order, with no cycle between them (R92). -/
inductive HostProgram.Runs : HostProgram → State → State → Prop
  | done {s} : HostProgram.Runs [] s s
  | line {l rest s t u} : HostLine.Runs l s t → HostProgram.Runs rest t u → HostProgram.Runs (l :: rest) s u

/-- Word `j` of a text: bytes `4*j` to `4*j + 3`, 0x00 past its end (R93). -/
def textWord (text : List Byte) (j : Nat) : Word :=
  wordOfBytes (text.getD (4 * j) 0) (text.getD (4 * j + 1) 0) (text.getD (4 * j + 2) 0) (text.getD (4 * j + 3) 0)

/-- `LOADMSG text`: the words of the text, then MSG_LEN (R93). -/
def loadMsg (text : List Byte) : HostProgram :=
  (List.range ((text.length + 3) / 4)).map (fun j => .wr (BitVec.ofNat 12 (0x100 + 4 * j)) (textWord text j)) ++
    [.wr 0x00C (BitVec.ofNat 32 text.length)]

/-- The data of a CTRL write that starts a run (R304, step 5). -/
def startWord (g : BitVec 4) (diag pre : Bool) : Word := 0#20 ++ g ++ 0#4 ++ BitVec.ofBool diag ++ BitVec.ofBool pre ++ 0#1 ++ 1#1

/-- The start-up sequence up to its START, with the steps in the order that R304 prints them. -/
def startLines (text : List Byte) (count : BitVec 16) (ticks : Word) (g : BitVec 4) (diag pre : Bool) : HostProgram :=
  loadMsg text ++ [.wr 0x008 (count.setWidth 32), .wr 0x010 ticks, .wr 0x000 (startWord g diag pre)]

/-- The last step of the start-up sequence: poll STATUS until BUSY is 0 (R304, R305). -/
def awaitEnd : HostLine := .poll 0x004 0x1 0x0

/-- The start-up sequence that sends a message (R304). -/
def startUp (text : List Byte) (count : BitVec 16) (ticks : Word) (g : BitVec 4) (diag pre : Bool) : HostProgram :=
  startLines text count ticks g diag pre ++ [awaitEnd]

end Sys2Proof.Machine
end

