-- ==== Sys2Proof/Safety.lean ====
section
/-! DEFINITION. What a good state and a safe run are, in the terms that the claims use: the invariant of the machine, the
quiet run, and the words for what an observer of the output sees. -/

namespace Sys2Proof.Machine

open Sys2Proof

/-- What holds in RUN: the settings that START checked still stand, the events are those of the message, `k` is the index
of an event of `E`, `ticks_left` lies in that event, and the status is that of a run in progress
(R21, R23, R25, R28, R243, R244). -/
structure State.RunInv (s : State) : Prop where
  count_pos : 1 ≤ s.count.toNat
  unitTicks_pos : 1 ≤ s.unitTicks.toNat
  msgLen_fits : s.msgLen.toNat ≤ s.cfg.msgMax
  repgap_legal : 7 ≤ s.repgap.toNat
  sched_eq : s.sched = schedule s.message
  current : ∃ e, s.eventAt? s.k = some e ∧ 1 ≤ s.ticksLeft.toNat ∧ s.ticksLeft.toNat ≤ (eventTicks s e).toNat
  done_clear : s.done = false
  cause_none : s.cause = .none

/-- What holds in END: the run that ended is reported (R223, R246, R270). -/
structure State.EndInv (s : State) : Prop where
  done_set : s.done = true
  cause_end : s.cause = .ok ∨ s.cause = .cancelled ∨ s.cause = .driverFault

/-- The invariant of the machine: a legal build, a message RAM in canonical form that lies inside the RAM, and the state
elements related as the mode asks. -/
structure State.Inv (s : State) : Prop where
  build_legal : s.cfg.Legal
  ram_canonical : Memory.wf s.msg
  ram_in_range : ∀ c ∈ s.msg, c.1 < s.cfg.msgMax
  in_run : s.mode = .run → s.RunInv
  in_end : s.mode = .ending → s.EndInv

/-- The cycles that the current event still occupies and those of the later events of the run: how long a run that
nothing disturbs still is (R226). -/
def State.remainingCycles (s : State) : Nat :=
  s.ticksLeft.toNat + s.unitTicks.toNat * totalUnits (s.events.drop (s.k + 1))

/-- `n` steps from `s` answer the state `t`. -/
def State.runsTo (n : Nat) (s t : State) : Prop := Sys2Proof.core.run n s = .next t

/-- No reset is pending. -/
def State.NoReset (s : State) : Prop := ∀ p ∈ s.pending, p.rst = false

/-- No reset and no driver failure is pending; the host may access the window. -/
def State.NoResetNoFault (s : State) : Prop := ∀ p ∈ s.pending, p.rst = false ∧ p.drvFault = false

/-- The two states agree in everything but what DIAG_EN feeds: DIAG_EN itself, the tap outputs, and the word a read returned
(a read of CTRL shows DIAG_EN) (R257, R258). -/
def State.AgreesButForTap (s t : State) : Prop :=
  t = { s with
    diagEn := t.diagEn
    ports := { s.ports with
      hRdata := t.ports.hRdata
      diagValid := t.ports.diagValid
      diagLevel := t.ports.diagLevel
      diagUnits := t.ports.diagUnits
      diagKind := t.ports.diagKind } }

/-- The cycle carries a write of CTRL with the data `d`. -/
def Pins.writesCtrl (p : Pins) (d : Word) : Prop :=
  p.hValid = true ∧ p.hWrite = true ∧ p.wordNumber = 0 ∧ p.hWdata = d

/-- The cycle carries a CANCEL: a write of CTRL with bit 1 set (R88). -/
def Pins.cancels (p : Pins) : Prop := ∃ d, p.writesCtrl d ∧ d[1] = true

/-- What the rule of one LETTER says (the template of R105 to R140): its ROM word, its token, the lowercase alias if it has
one, its events, how many units they last, the instruction of its code, and that this instruction emits those events and
changes nothing else (no flag, no exception). -/
structure LetterRule (code word : Byte) (symbols : List Symbol) (lower : Option Byte) (events : List Event) (units : Nat)
    (i : Instr) : Prop where
  rom_word : rom code = word
  token : encodeChar code = .letter symbols
  lower_alias : ∀ a, lower = some a → fold a = code ∧ encodeChar a = .letter symbols
  events_eq : schedule [code] = events
  size : events.length = 2 * symbols.length ∧ totalUnits events = units
  decoded : decodeChar code = i
  runs : ∀ s : State, exec i s = .next { s with sched := s.sched ++ events }

end Sys2Proof.Machine
end

