-- ==== Sys2Proof/Certificates/Slice0/Obligations.lean ====
section
/-! DEFINITION. The statements for the provers: what the numbered rules of spec/ say, stated of this model. -/

open Sys2Proof Sys2Proof.Machine

/-! ### Encodings -/

/-- Words written out from the encodings of 30_encoding.md decode to the instructions they stand for. That the writes 0xA0D
and 0x2 of offset 0x000, which R88 makes a WR_CTRL too, are named START and CANCEL is the model's choice (log entry 5), and
that offset 0xFFC is unmapped is so in the build of log entry 1, the model's choice too. -/
def Obligations.TableWordsDecodeToTheirInstructions : Prop :=
  decodeTableWord 8 0x41 = some .charA ∧
  decodeTableWord 8 0x7A = some .charLowerZ ∧
  decodeTableWord 8 0x39 = some .char9 ∧
  decodeTableWord 8 0x20 = some .charSpace ∧
  decodeTableWord 8 0x3F = some (.charUnknown3C_3F 3) ∧
  decodeTableWord 8 0xE9 = some (.charUnknown80_FF 0x69) ∧
  decodeTableWord 16 0x023 = some .evDot ∧
  decodeTableWord 16 0x126 = some .evPreSep ∧
  decodeTableWord 16 0x154 = some (.evRepgap 10) ∧
  decodeTableWord 48 0x110000534F53 = some (.wrMsg 0 0x00534F53) ∧
  decodeTableWord 48 0x100C00000003 = some (.wrMsgLen 3) ∧
  decodeTableWord 48 0x101000000001 = some (.wrUnitTicks 1) ∧
  decodeTableWord 48 0x100000000A0D = some (.start 0xA0D) ∧
  decodeTableWord 48 0x100000000002 = some (.cancel 2) ∧
  decodeTableWord 48 0x000400000000 = some .rdRegStatus ∧
  decodeTableWord 48 0x010400000000 = some (.rdMsg 1) ∧
  decodeTableWord 48 0x0FFC00000000 = some (.rdUnmapped 0x3FF)

/-- Decoding the encoding of a well-formed instruction gives it back, for every build. Which of its three names a write of
offset 0x000 gets is the model's choice (log entry 5). -/
def Obligations.DecodeOfEncodeIsTheInstruction : Prop :=
  ∀ cfg : Config, cfg.Legal → ∀ i : Instr, i.wellFormed cfg = true → decode cfg (encode i) = .ok i

/-- Every host access decodes to a well-formed instruction, and an access whose ignored bits are zero (`h_addr[1:0]`, and
the data of a read) is the encoding of that instruction. -/
def Obligations.EncodeOfDecodedHostAccessIsTheAccess : Prop :=
  ∀ cfg : Config, cfg.Legal → ∀ w : BitVec 45,
    (decodeHost cfg w).wellFormed cfg = true ∧
    (w.extractLsb' 32 2 = 0 → (w[44] = false → w.extractLsb' 0 32 = 0) → encode (decodeHost cfg w) = .host45 w)

/-- An event record decodes exactly when it is the record of an event instruction, and then to that instruction. These are
the records of R86 and, by the model's choice (log entry 24), those of REPGAP with UNITS 0 to 6 (0x140 to 0x14C), for which
R86 gives only UNITS 7 to 15 and which no run emits. A record of a reserved KIND is refused. -/
def Obligations.EventRecordsDecodeToTheirEvents : Prop :=
  (∀ i e, eventOfInstr i = some e → decodeEvent e.pack = .ok i) ∧
  (∀ w i, decodeEvent w = .ok i → ∃ e, eventOfInstr i = some e ∧ e.pack = w) ∧
  (∀ w : BitVec 9, w.extractLsb' 5 4 = 0 ∨ 11 ≤ (w.extractLsb' 5 4).toNat → decodeEvent w = .error .reservedKind)

/-! ### Characters -/

/-- The rules of the letters A to L. -/
def Obligations.LettersAToLEmitTheirCodes : Prop :=
  LetterRule 0x41 0x42 [.dot, .dash] (some 0x61)
    [dotEvent, symgapEvent, dashEvent, lettergapEvent] 8 .charA ∧
  LetterRule 0x42 0x81 [.dash, .dot, .dot, .dot] (some 0x62)
    [dashEvent, symgapEvent, dotEvent, symgapEvent, dotEvent, symgapEvent, dotEvent, lettergapEvent] 12 .charB ∧
  LetterRule 0x43 0x85 [.dash, .dot, .dash, .dot] (some 0x63)
    [dashEvent, symgapEvent, dotEvent, symgapEvent, dashEvent, symgapEvent, dotEvent, lettergapEvent] 14 .charC ∧
  LetterRule 0x44 0x61 [.dash, .dot, .dot] (some 0x64)
    [dashEvent, symgapEvent, dotEvent, symgapEvent, dotEvent, lettergapEvent] 10 .charD ∧
  LetterRule 0x45 0x20 [.dot] (some 0x65)
    [dotEvent, lettergapEvent] 4 .charE ∧
  LetterRule 0x46 0x84 [.dot, .dot, .dash, .dot] (some 0x66)
    [dotEvent, symgapEvent, dotEvent, symgapEvent, dashEvent, symgapEvent, dotEvent, lettergapEvent] 12 .charF ∧
  LetterRule 0x47 0x63 [.dash, .dash, .dot] (some 0x67)
    [dashEvent, symgapEvent, dashEvent, symgapEvent, dotEvent, lettergapEvent] 12 .charG ∧
  LetterRule 0x48 0x80 [.dot, .dot, .dot, .dot] (some 0x68)
    [dotEvent, symgapEvent, dotEvent, symgapEvent, dotEvent, symgapEvent, dotEvent, lettergapEvent] 10 .charH ∧
  LetterRule 0x49 0x40 [.dot, .dot] (some 0x69)
    [dotEvent, symgapEvent, dotEvent, lettergapEvent] 6 .charI ∧
  LetterRule 0x4A 0x8E [.dot, .dash, .dash, .dash] (some 0x6A)
    [dotEvent, symgapEvent, dashEvent, symgapEvent, dashEvent, symgapEvent, dashEvent, lettergapEvent] 16 .charJ ∧
  LetterRule 0x4B 0x65 [.dash, .dot, .dash] (some 0x6B)
    [dashEvent, symgapEvent, dotEvent, symgapEvent, dashEvent, lettergapEvent] 12 .charK ∧
  LetterRule 0x4C 0x82 [.dot, .dash, .dot, .dot] (some 0x6C)
    [dotEvent, symgapEvent, dashEvent, symgapEvent, dotEvent, symgapEvent, dotEvent, lettergapEvent] 12 .charL

/-- The rules of the letters M to X. -/
def Obligations.LettersMToXEmitTheirCodes : Prop :=
  LetterRule 0x4D 0x43 [.dash, .dash] (some 0x6D)
    [dashEvent, symgapEvent, dashEvent, lettergapEvent] 10 .charM ∧
  LetterRule 0x4E 0x41 [.dash, .dot] (some 0x6E)
    [dashEvent, symgapEvent, dotEvent, lettergapEvent] 8 .charN ∧
  LetterRule 0x4F 0x67 [.dash, .dash, .dash] (some 0x6F)
    [dashEvent, symgapEvent, dashEvent, symgapEvent, dashEvent, lettergapEvent] 14 .charO ∧
  LetterRule 0x50 0x86 [.dot, .dash, .dash, .dot] (some 0x70)
    [dotEvent, symgapEvent, dashEvent, symgapEvent, dashEvent, symgapEvent, dotEvent, lettergapEvent] 14 .charP ∧
  LetterRule 0x51 0x8B [.dash, .dash, .dot, .dash] (some 0x71)
    [dashEvent, symgapEvent, dashEvent, symgapEvent, dotEvent, symgapEvent, dashEvent, lettergapEvent] 16 .charQ ∧
  LetterRule 0x52 0x62 [.dot, .dash, .dot] (some 0x72)
    [dotEvent, symgapEvent, dashEvent, symgapEvent, dotEvent, lettergapEvent] 10 .charR ∧
  LetterRule 0x53 0x60 [.dot, .dot, .dot] (some 0x73)
    [dotEvent, symgapEvent, dotEvent, symgapEvent, dotEvent, lettergapEvent] 8 .charS ∧
  LetterRule 0x54 0x21 [.dash] (some 0x74)
    [dashEvent, lettergapEvent] 6 .charT ∧
  LetterRule 0x55 0x64 [.dot, .dot, .dash] (some 0x75)
    [dotEvent, symgapEvent, dotEvent, symgapEvent, dashEvent, lettergapEvent] 10 .charU ∧
  LetterRule 0x56 0x88 [.dot, .dot, .dot, .dash] (some 0x76)
    [dotEvent, symgapEvent, dotEvent, symgapEvent, dotEvent, symgapEvent, dashEvent, lettergapEvent] 12 .charV ∧
  LetterRule 0x57 0x66 [.dot, .dash, .dash] (some 0x77)
    [dotEvent, symgapEvent, dashEvent, symgapEvent, dashEvent, lettergapEvent] 12 .charW ∧
  LetterRule 0x58 0x89 [.dash, .dot, .dot, .dash] (some 0x78)
    [dashEvent, symgapEvent, dotEvent, symgapEvent, dotEvent, symgapEvent, dashEvent, lettergapEvent] 14 .charX

/-- The rules of the letters Y and Z and of the digits. -/
def Obligations.LettersYZAndDigitsEmitTheirCodes : Prop :=
  LetterRule 0x59 0x8D [.dash, .dot, .dash, .dash] (some 0x79)
    [dashEvent, symgapEvent, dotEvent, symgapEvent, dashEvent, symgapEvent, dashEvent, lettergapEvent] 16 .charY ∧
  LetterRule 0x5A 0x83 [.dash, .dash, .dot, .dot] (some 0x7A)
    [dashEvent, symgapEvent, dashEvent, symgapEvent, dotEvent, symgapEvent, dotEvent, lettergapEvent] 14 .charZ ∧
  LetterRule 0x30 0xBF [.dash, .dash, .dash, .dash, .dash] none
    [dashEvent, symgapEvent, dashEvent, symgapEvent, dashEvent, symgapEvent, dashEvent, symgapEvent, dashEvent, lettergapEvent] 22 .char0 ∧
  LetterRule 0x31 0xBE [.dot, .dash, .dash, .dash, .dash] none
    [dotEvent, symgapEvent, dashEvent, symgapEvent, dashEvent, symgapEvent, dashEvent, symgapEvent, dashEvent, lettergapEvent] 20 .char1 ∧
  LetterRule 0x32 0xBC [.dot, .dot, .dash, .dash, .dash] none
    [dotEvent, symgapEvent, dotEvent, symgapEvent, dashEvent, symgapEvent, dashEvent, symgapEvent, dashEvent, lettergapEvent] 18 .char2 ∧
  LetterRule 0x33 0xB8 [.dot, .dot, .dot, .dash, .dash] none
    [dotEvent, symgapEvent, dotEvent, symgapEvent, dotEvent, symgapEvent, dashEvent, symgapEvent, dashEvent, lettergapEvent] 16 .char3 ∧
  LetterRule 0x34 0xB0 [.dot, .dot, .dot, .dot, .dash] none
    [dotEvent, symgapEvent, dotEvent, symgapEvent, dotEvent, symgapEvent, dotEvent, symgapEvent, dashEvent, lettergapEvent] 14 .char4 ∧
  LetterRule 0x35 0xA0 [.dot, .dot, .dot, .dot, .dot] none
    [dotEvent, symgapEvent, dotEvent, symgapEvent, dotEvent, symgapEvent, dotEvent, symgapEvent, dotEvent, lettergapEvent] 12 .char5 ∧
  LetterRule 0x36 0xA1 [.dash, .dot, .dot, .dot, .dot] none
    [dashEvent, symgapEvent, dotEvent, symgapEvent, dotEvent, symgapEvent, dotEvent, symgapEvent, dotEvent, lettergapEvent] 14 .char6 ∧
  LetterRule 0x37 0xA3 [.dash, .dash, .dot, .dot, .dot] none
    [dashEvent, symgapEvent, dashEvent, symgapEvent, dotEvent, symgapEvent, dotEvent, symgapEvent, dotEvent, lettergapEvent] 16 .char7 ∧
  LetterRule 0x38 0xA7 [.dash, .dash, .dash, .dot, .dot] none
    [dashEvent, symgapEvent, dashEvent, symgapEvent, dashEvent, symgapEvent, dotEvent, symgapEvent, dotEvent, lettergapEvent] 18 .char8 ∧
  LetterRule 0x39 0xAF [.dash, .dash, .dash, .dash, .dot] none
    [dashEvent, symgapEvent, dashEvent, symgapEvent, dashEvent, symgapEvent, dashEvent, symgapEvent, dotEvent, lettergapEvent] 20 .char9

/-- A lowercase letter encodes as its uppercase letter, its instruction emits that letter's events, and `schedule` of a
text equals `schedule` of its uppercase form. -/
def Obligations.LowercaseLettersRunAsUppercase : Prop :=
  (∀ c : Byte, 0x61 ≤ c.toNat → c.toNat ≤ 0x7A → encodeChar c = encodeChar (c - 0x20)) ∧
  (∀ msg : List Byte, schedule msg = schedule (msg.map fold)) ∧
  schedule [0x65] = [dotEvent, lettergapEvent] ∧
  ∀ s : State,
    exec .charLowerA s = .next { s with sched := s.sched ++ tokenEvents (encodeChar 0x41) } ∧
    exec .charLowerB s = .next { s with sched := s.sched ++ tokenEvents (encodeChar 0x42) } ∧
    exec .charLowerC s = .next { s with sched := s.sched ++ tokenEvents (encodeChar 0x43) } ∧
    exec .charLowerD s = .next { s with sched := s.sched ++ tokenEvents (encodeChar 0x44) } ∧
    exec .charLowerE s = .next { s with sched := s.sched ++ tokenEvents (encodeChar 0x45) } ∧
    exec .charLowerF s = .next { s with sched := s.sched ++ tokenEvents (encodeChar 0x46) } ∧
    exec .charLowerG s = .next { s with sched := s.sched ++ tokenEvents (encodeChar 0x47) } ∧
    exec .charLowerH s = .next { s with sched := s.sched ++ tokenEvents (encodeChar 0x48) } ∧
    exec .charLowerI s = .next { s with sched := s.sched ++ tokenEvents (encodeChar 0x49) } ∧
    exec .charLowerJ s = .next { s with sched := s.sched ++ tokenEvents (encodeChar 0x4A) } ∧
    exec .charLowerK s = .next { s with sched := s.sched ++ tokenEvents (encodeChar 0x4B) } ∧
    exec .charLowerL s = .next { s with sched := s.sched ++ tokenEvents (encodeChar 0x4C) } ∧
    exec .charLowerM s = .next { s with sched := s.sched ++ tokenEvents (encodeChar 0x4D) } ∧
    exec .charLowerN s = .next { s with sched := s.sched ++ tokenEvents (encodeChar 0x4E) } ∧
    exec .charLowerO s = .next { s with sched := s.sched ++ tokenEvents (encodeChar 0x4F) } ∧
    exec .charLowerP s = .next { s with sched := s.sched ++ tokenEvents (encodeChar 0x50) } ∧
    exec .charLowerQ s = .next { s with sched := s.sched ++ tokenEvents (encodeChar 0x51) } ∧
    exec .charLowerR s = .next { s with sched := s.sched ++ tokenEvents (encodeChar 0x52) } ∧
    exec .charLowerS s = .next { s with sched := s.sched ++ tokenEvents (encodeChar 0x53) } ∧
    exec .charLowerT s = .next { s with sched := s.sched ++ tokenEvents (encodeChar 0x54) } ∧
    exec .charLowerU s = .next { s with sched := s.sched ++ tokenEvents (encodeChar 0x55) } ∧
    exec .charLowerV s = .next { s with sched := s.sched ++ tokenEvents (encodeChar 0x56) } ∧
    exec .charLowerW s = .next { s with sched := s.sched ++ tokenEvents (encodeChar 0x57) } ∧
    exec .charLowerX s = .next { s with sched := s.sched ++ tokenEvents (encodeChar 0x58) } ∧
    exec .charLowerY s = .next { s with sched := s.sched ++ tokenEvents (encodeChar 0x59) } ∧
    exec .charLowerZ s = .next { s with sched := s.sched ++ tokenEvents (encodeChar 0x5A) }

/-- Only the code 0x20 is a space: its ROM word is 0xE0, its token WORD_GAP, and its instruction emits one WORDGAP. -/
def Obligations.SpaceEmitsOneWordGap : Prop :=
  rom 0x20 = 0xE0 ∧
  (∀ c : Byte, encodeChar c = .wordGap ↔ c = 0x20) ∧
  (∀ s : State, exec .charSpace s = .next { s with sched := s.sched ++ [wordgapEvent] }) ∧
  (∀ m n : List Byte, schedule (m ++ [0x20] ++ n) = schedule m ++ [wordgapEvent] ++ schedule n) ∧
  ∀ m n : List Byte, schedule (m ++ [0x20, 0x20] ++ n) = schedule m ++ [wordgapEvent, wordgapEvent] ++ schedule n

/-- The codes outside the table, and only those, are UNKNOWN: the instruction of such a code changes nothing, and such a
character in a message leaves the events of the others as they are. -/
def Obligations.UnknownCharactersEmitNothing : Prop :=
  (∀ c : Byte, encodeChar c = .unknown ↔
    ¬ (fold c = 0x20 ∨ (0x30 ≤ (fold c).toNat ∧ (fold c).toNat ≤ 0x39) ∨ (0x41 ≤ (fold c).toNat ∧ (fold c).toNat ≤ 0x5A))) ∧
  (∀ c : Byte, encodeChar c = .unknown → rom (fold c) = 0x00 ∧ ∀ m n : List Byte, schedule (m ++ [c] ++ n) = schedule (m ++ n)) ∧
  (∀ msg : List Byte, (∀ c ∈ msg, encodeChar c = .unknown) → schedule msg = []) ∧
  schedule [0x41, 0x3F, 0x42] = schedule [0x41, 0x42] ∧
  ∀ s : State,
    (∀ low, exec (.charUnknown00_1F low) s = .next s) ∧
    exec .charUnknown21_21 s = .next s ∧
    (∀ low, exec (.charUnknown22_23 low) s = .next s) ∧
    (∀ low, exec (.charUnknown24_27 low) s = .next s) ∧
    (∀ low, exec (.charUnknown28_2F low) s = .next s) ∧
    (∀ low, exec (.charUnknown3A_3B low) s = .next s) ∧
    (∀ low, exec (.charUnknown3C_3F low) s = .next s) ∧
    exec .charUnknown40_40 s = .next s ∧
    exec .charUnknown5B_5B s = .next s ∧
    (∀ low, exec (.charUnknown5C_5F low) s = .next s) ∧
    exec .charUnknown60_60 s = .next s ∧
    exec .charUnknown7B_7B s = .next s ∧
    (∀ low, exec (.charUnknown7C_7F low) s = .next s) ∧
    (∀ low, exec (.charUnknown80_FF low) s = .next s)

/-- Whatever the code, the instruction it decodes to looks it up in the ROM and emits its token's events, and changes
nothing else. -/
def Obligations.EveryCharacterCodeRunsItsLookup : Prop :=
  ∀ (c : Byte) (s : State),
    exec (decodeChar c) s = .next { s with sched := s.sched ++ tokenEvents (encodeChar c) }

/-- The ROM holds exactly 37 nonzero words, none of them with LEN = 6; no two characters share a code; codes have 1 to 5
symbols. -/
def Obligations.RomHoldsThirtySevenDistinctWords : Prop :=
  ((List.range 256).filter (fun a => rom (BitVec.ofNat 8 a) ≠ 0)).length = 37 ∧
  (∀ a : Byte, rom a ≠ 0 ↔
    a = 0x20 ∨ (0x30 ≤ a.toNat ∧ a.toNat ≤ 0x39) ∨ (0x41 ≤ a.toNat ∧ a.toNat ≤ 0x5A)) ∧
  (∀ a : Byte, (rom a).extractLsb' 5 3 ≠ 6) ∧
  (∀ a b : Byte, rom a ≠ 0 → rom a = rom b → a = b) ∧
  ∀ (a : Byte) (symbols : List Symbol), decodeRom (rom a) = some (.letter symbols) →
    1 ≤ symbols.length ∧ symbols.length ≤ 5 ∧ symbols.length = ((rom a).extractLsb' 5 3).toNat

/-! ### The scheduler -/

/-- The invariants of every scheduled message. -/
def Obligations.EveryOnEventIsFollowedByItsGap : Prop :=
  ∀ msg : List Byte,
    (∀ n a b, (schedule msg)[n]? = some a → (schedule msg)[n + 1]? = some b → ¬ (a.level = .on ∧ b.level = .on)) ∧
    (∀ n a, (schedule msg)[n]? = some a → a.level = .on →
      ∃ b, (schedule msg)[n + 1]? = some b ∧ (b = symgapEvent ∨ b = lettergapEvent)) ∧
    (schedule msg ≠ [] → ∃ e, (schedule msg).getLast? = some e ∧ (e = lettergapEvent ∨ e = wordgapEvent)) ∧
    (∀ e ∈ schedule msg, e.level = .on → e = dotEvent ∨ e = dashEvent) ∧
    (∀ c ∈ msg, ∀ symbols, encodeChar c = .letter symbols →
      ∃ es last, symbols.getLast? = some last ∧ tokenEvents (encodeChar c) = es ++ [symbolEvent last, lettergapEvent]) ∧
    (∀ c ∈ msg, (encodeChar c = .wordGap ∨ encodeChar c = .unknown) →
      ∀ e ∈ tokenEvents (encodeChar c), e.level = .off)

/-- The sizes of a LETTER, of a WORD_GAP, of an UNKNOWN and of a message. -/
def Obligations.ScheduleSizesAreThoseOfItsTokens : Prop :=
  (∀ symbols : List Symbol, symbols ≠ [] →
    (tokenEvents (.letter symbols)).length = 2 * symbols.length ∧
    totalUnits (tokenEvents (.letter symbols)) = 2 * symbols.length + 2 * symbols.count .dash + 2 ∧
    onUnits (tokenEvents (.letter symbols)) = symbols.length + 2 * symbols.count .dash) ∧
  (tokenEvents .wordGap).length = 1 ∧ totalUnits (tokenEvents .wordGap) = 7 ∧ tokenEvents .unknown = [] ∧
  (∀ msg : List Byte,
    (schedule msg).length = (msg.map fun c => (tokenEvents (encodeChar c)).length).sum ∧
    totalUnits (schedule msg) = (msg.map fun c => totalUnits (tokenEvents (encodeChar c))).sum ∧
    onUnits (schedule msg) = (msg.map fun c => onUnits (tokenEvents (encodeChar c))).sum) ∧
  (schedule [0x45]).length = 2 ∧ totalUnits (schedule [0x45]) = 4 ∧ onUnits (schedule [0x45]) = 1 ∧
  (schedule [0x54]).length = 2 ∧ totalUnits (schedule [0x54]) = 6 ∧ onUnits (schedule [0x54]) = 3 ∧
  (schedule [0x53, 0x4F, 0x53]).length = 18 ∧ totalUnits (schedule [0x53, 0x4F, 0x53]) = 30 ∧
  (schedule [0x48, 0x49, 0x20, 0x54, 0x48, 0x45, 0x52, 0x45]).length = 33 ∧
  totalUnits (schedule [0x48, 0x49, 0x20, 0x54, 0x48, 0x45, 0x52, 0x45]) = 57

/-- The preamble's eight records, its 14 units and its 3 units of ON time. -/
def Obligations.PreambleIsEightFixedEvents : Prop :=
  preamble.map Event.pack = [0x0CA, 0x0E3, 0x102, 0x0E3, 0x102, 0x0E3, 0x102, 0x126] ∧
  preamble.length = 8 ∧ totalUnits preamble = 14 ∧ onUnits preamble = 3

/-- The preamble is sent once per run, at its start, when PRE_EN is set, whatever the message holds. -/
def Obligations.PreambleIsSentOnceAtTheStart : Prop :=
  ∀ (count : Nat) (msg : List Byte) (g : BitVec 4), 1 ≤ count →
    transmit count msg true g = preamble ++ transmit count msg false g ∧
    (∀ e ∈ transmit count msg false g, e.kind ≠ .preSettle ∧ e.kind ≠ .preDot ∧ e.kind ≠ .preGap ∧ e.kind ≠ .preSep)

/-- A run holds exactly `count` copies of the message's events, a REPGAP before every copy but the first. -/
def Obligations.RunIsCopiesSeparatedByRepetitionGaps : Prop :=
  ∀ (n : Nat) (msg : List Byte) (pre : Bool) (g : BitVec 4),
    transmit (n + 1) msg pre g =
      (if pre then preamble else []) ++ schedule msg ++ (List.replicate n (repgapEvent g :: schedule msg)).flatten ∧
    ((transmit (n + 1) msg pre g).filter (fun e => e.kind == .repgap)).length = n

/-- The duration and the ON time of a complete run, in units. -/
def Obligations.RunDurationInUnits : Prop :=
  (∀ (count : Nat) (msg : List Byte) (pre : Bool) (g : BitVec 4), 1 ≤ count →
    totalUnits (transmit count msg pre g) =
      count * totalUnits (schedule msg) + (count - 1) * g.toNat + (if pre then 14 else 0) ∧
    onUnits (transmit count msg pre g) = count * onUnits (schedule msg) + (if pre then 3 else 0)) ∧
  totalUnits (transmit 2 [0x53, 0x4F, 0x53] true 10) = 84 ∧ (transmit 2 [0x53, 0x4F, 0x53] true 10).length = 45

/-- The length of `E`, when it is empty, and that the event index never reaches 2^32 in any build. -/
def Obligations.RunLengthInEvents : Prop :=
  ∀ (count : Nat) (msg : List Byte) (pre : Bool) (g : BitVec 4), 1 ≤ count →
    (transmit count msg pre g).length = count * (schedule msg).length + (count - 1) + (if pre then 8 else 0) ∧
    (transmit count msg pre g = [] ↔ count = 1 ∧ pre = false ∧ schedule msg = []) ∧
    (count ≤ 65535 → msg.length ≤ 3840 →
      (transmit count msg pre g).length ≤ 65535 * (1 + 10 * 3840) + 8 ∧ (transmit count msg pre g).length < 2 ^ 32)

/-! ### Events on the output -/

/-- A RUN cycle of an event instruction drives that event's level, claims the pin, and gives the tap its record in the
event's first cycle when DIAG_EN is set. -/
def Obligations.EventInstructionDrivesItsEvent : Prop :=
  ∀ (i : Instr) (e : Event) (s : State), eventOfInstr i = some e → s.mode = .run →
    ∃ t, exec i s = .next t ∧
      t.ports.led = decide (e.level = .on) ∧ t.ports.ledOwn = true ∧ t.ports.release = false ∧ t.ports.busy = true ∧
      t.ports.hRdata = 0 ∧
      (s.ticksLeft = eventTicks s e ∧ s.diagEn = true →
        t.ports.diagValid = true ∧ t.ports.diagLevel = decide (e.level = .on) ∧ t.ports.diagUnits = e.units ∧
        t.ports.diagKind = e.kind.code) ∧
      (¬ (s.ticksLeft = eventTicks s e ∧ s.diagEn = true) →
        t.ports.diagValid = false ∧ t.ports.diagLevel = false ∧ t.ports.diagUnits = 0 ∧ t.ports.diagKind = 0)

/-- A RUN cycle of an event instruction with no driver failure and more than one cycle left counts down, and nothing else
of the state changes but the record of the outputs. -/
def Obligations.EventInstructionCountsDown : Prop :=
  ∀ (i : Instr) (e : Event) (s : State), eventOfInstr i = some e → s.mode = .run → s.pins.drvFault = false →
    1 < s.ticksLeft.toNat →
    exec i s = .next { s with ticksLeft := s.ticksLeft - 1, ports := portsWith s (some e) } ∧
    (s.ticksLeft - 1).toNat = s.ticksLeft.toNat - 1

/-- The last cycle of an event: the next event starts with its whole duration, or a pending cancellation ends the run
there, or, where there is no next event, the run ends OK. -/
def Obligations.EventInstructionAtItsBoundary : Prop :=
  ∀ (i : Instr) (e : Event) (s : State), eventOfInstr i = some e → s.mode = .run → s.pins.drvFault = false →
    s.ticksLeft = 1 →
    (∀ n, s.events[s.k + 1]? = some n → s.cancelPend = false →
      exec i s = .next { s with k := s.k + 1, ticksLeft := eventTicks s n, ports := portsWith s (some e) } ∧
      (eventTicks s n).toNat = n.units.toNat * s.unitTicks.toNat) ∧
    (∀ n, s.events[s.k + 1]? = some n → s.cancelPend = true →
      exec i s = .next { s with mode := .ending, done := true, cause := .cancelled, ports := portsWith s (some e) }) ∧
    (s.events[s.k + 1]? = none →
      exec i s = .next { s with mode := .ending, done := true, cause := .ok, ports := portsWith s (some e) })

/-- A driver failure in a RUN cycle ends the run, whatever `ticks_left`, `cancel_pend` and the host's access are; the event
index and the counter stay as they are. In IDLE and END a driver failure is ignored. -/
def Obligations.DriverFailureEndsTheRunAtOnce : Prop :=
  (∀ s : State, s.Inv → s.mode = .run → s.sample.pins.rst = false → s.sample.pins.drvFault = true →
    ∃ t, step s = .next t ∧ t.mode = .ending ∧ t.done = true ∧ t.cause = .driverFault ∧ t.k = s.k ∧
      t.ticksLeft = s.ticksLeft ∧ t.ports.led = (portsNow s).led ∧ t.ports.ledOwn = true ∧
      (portsNow t).led = false ∧ (portsNow t).release = true) ∧
  (∀ (s : State) (b : Bool), s.mode ≠ .run →
    machinePart { s with pins := { s.pins with drvFault := b } } =
      { machinePart s with pins := { s.pins with drvFault := b } })

/-- The outputs of every cycle, with or without reset: `led` is 1 exactly in RUN with an ON event at `k`, `led_own` in RUN,
`release` in END, `busy` outside IDLE. -/
def Obligations.OutputsFollowTheModeAndTheEvent : Prop :=
  ∀ s t : State, step s = .next t →
    (t.ports.led = true ↔ s.mode = .run ∧ ∃ e, s.events[s.k]? = some e ∧ e.level = .on) ∧
    (t.ports.ledOwn = true ↔ s.mode = .run) ∧
    (t.ports.release = true ↔ s.mode = .ending) ∧
    (t.ports.busy = true ↔ s.mode ≠ .idle)

/-- The diagnostic tap in every cycle. -/
def Obligations.DiagnosticTapShowsEachEventInItsFirstCycle : Prop :=
  ∀ s t : State, step s = .next t →
    (t.ports.diagValid = true ↔
      s.mode = .run ∧ s.diagEn = true ∧ ∃ e, s.events[s.k]? = some e ∧ s.ticksLeft = eventTicks s e) ∧
    (∀ e, s.events[s.k]? = some e → t.ports.diagValid = true →
      t.ports.diagLevel = decide (e.level = .on) ∧ t.ports.diagUnits = e.units ∧ t.ports.diagKind = e.kind.code) ∧
    (t.ports.diagValid = false → t.ports.diagLevel = false ∧ t.ports.diagUnits = 0 ∧ t.ports.diagKind = 0)

/-- An event that no driver failure and no reset cuts short occupies exactly `units * UNIT_TICKS` cycles of RUN, whatever
the host does meanwhile, and the next event starts in the very next cycle. -/
def Obligations.EventOccupiesExactlyItsCycles : Prop :=
  ∀ (s : State) (e : Event), s.Inv → s.NoResetNoFault → s.mode = .run → s.events[s.k]? = some e →
    s.ticksLeft = eventTicks s e →
    (∀ n, n < e.units.toNat * s.unitTicks.toNat →
      ∃ t, s.runsTo n t ∧ t.mode = .run ∧ t.k = s.k ∧ t.events = s.events ∧
        t.ticksLeft.toNat = e.units.toNat * s.unitTicks.toNat - n) ∧
    ∃ t, s.runsTo (e.units.toNat * s.unitTicks.toNat) t ∧
      (t.mode = .ending ∨
        (t.mode = .run ∧ t.k = s.k + 1 ∧ t.events = s.events ∧
          ∃ n, s.events[s.k + 1]? = some n ∧ t.ticksLeft = eventTicks s n))

/-! ### Whole runs

The inputs of the cycles to come are the list `pending`, whatever it holds and however long it is; beyond its end the cycles
are quiet (the model's choice, log entry 4). -/

/-- The timeline of a complete run: START in the first cycle, and afterwards no reset, no driver failure and no CANCEL; the
host may read and write as it likes. Event `n` starts after 1 + T * U_n cycles, END comes after 1 + T * units(E) cycles
with cause OK, and IDLE one cycle later, in which cycle `release` was 1. -/
def Obligations.CompleteRunTimeline : Prop :=
  ∀ (s : State) (p : Pins) (rest : List Pins) (d : Word), s.Inv → s.mode = .idle → s.pending = p :: rest →
    p.rst = false → p.writesCtrl d → d[0] = true →
    (∀ q ∈ rest, q.rst = false ∧ q.drvFault = false ∧ ¬ q.cancels) →
    1 ≤ s.count.toNat → 1 ≤ s.unitTicks.toNat → s.msgLen.toNat ≤ s.cfg.msgMax → 7 ≤ (d.extractLsb' 8 4).toNat →
    let es := transmit s.count.toNat s.message d[2] (d.extractLsb' 8 4)
    (∀ n e, es[n]? = some e →
      ∃ t, s.runsTo (1 + s.unitTicks.toNat * totalUnits (es.take n)) t ∧ t.mode = .run ∧ t.k = n ∧ t.events = es ∧
        t.ticksLeft.toNat = e.units.toNat * s.unitTicks.toNat) ∧
    (∃ t, s.runsTo (1 + s.unitTicks.toNat * totalUnits es) t ∧ t.mode = .ending ∧ t.done = true ∧ t.cause = .ok) ∧
    (∃ t, s.runsTo (2 + s.unitTicks.toNat * totalUnits es) t ∧ t.mode = .idle ∧ t.ports.release = true)

/-- Every run that no reset cuts ends, within the cycles its events still occupy, and gives the release strobe in exactly
one cycle: none while RUN, one in END, and then the keyer is IDLE. -/
def Obligations.EveryRunEndsWithOneRelease : Prop :=
  ∀ s : State, s.Inv → s.NoReset → s.mode = .run →
    ∃ n, n ≤ s.remainingCycles ∧
      (∀ m, m < n → ∃ t, s.runsTo m t ∧ t.mode = .run) ∧
      (∀ m, 1 ≤ m → m ≤ n → ∃ t, s.runsTo m t ∧ t.ports.release = false) ∧
      (∃ t, s.runsTo n t ∧ t.mode = .ending) ∧
      (∃ t, s.runsTo (n + 1) t ∧ t.mode = .idle ∧ t.ports.release = true)

/-- A CANCEL written in RUN brings END at most 15 * T + 1 cycles after it. -/
def Obligations.CancelLatencyIsBounded : Prop :=
  ∀ (s : State) (p : Pins) (rest : List Pins), s.Inv → s.NoReset → s.mode = .run → s.pending = p :: rest → p.cancels →
    ∃ n t, n ≤ 15 * s.unitTicks.toNat + 1 ∧ s.runsTo n t ∧ t.mode = .ending

/-- DIAG_EN never changes timing: agreement in everything but DIAG_EN, the tap outputs and the word a read returned is kept
by every step, so it is kept by every run. -/
def Obligations.DiagnosticsNeverChangeTheRun : Prop :=
  ∀ s s' t : State, s.AgreesButForTap s' → step s = .next t → ∃ u, step s' = .next u ∧ t.AgreesButForTap u

/-- The machine's part of a cycle, which every host operation's cycle runs: IDLE holds, END goes to IDLE, and RUN ends on a
driver failure, counts down, or passes the boundary of its event. -/
def Obligations.MachinePartOfEveryCycle : Prop :=
  ∀ s : State,
    (s.mode = .idle → machinePart s = s) ∧
    (s.mode = .ending → machinePart s = { s with mode := .idle }) ∧
    (s.mode = .run → s.pins.drvFault = true →
      machinePart s = { s with mode := .ending, done := true, cause := .driverFault }) ∧
    (s.mode = .run → s.pins.drvFault = false → 1 < s.ticksLeft.toNat →
      machinePart s = { s with ticksLeft := s.ticksLeft - 1 }) ∧
    (s.mode = .run → s.pins.drvFault = false → s.ticksLeft = 1 →
      (∀ n, s.events[s.k + 1]? = some n → s.cancelPend = true →
        machinePart s = { s with mode := .ending, done := true, cause := .cancelled }) ∧
      (∀ n, s.events[s.k + 1]? = some n → s.cancelPend = false →
        machinePart s = { s with k := s.k + 1, ticksLeft := eventTicks s n }) ∧
      (s.events[s.k + 1]? = none → machinePart s = { s with mode := .ending, done := true, cause := .ok }))

/-! ### Host reads -/

/-- What each read returns, in every mode, with the codes of the completion causes; a read changes no state, so the state
after the cycle is what the machine's part of the cycle makes. -/
def Obligations.ReadsReturnTheRegisters : Prop :=
  Cause.none.code = 0 ∧ Cause.ok.code = 1 ∧ Cause.invalidArg.code = 2 ∧ Cause.cancelled.code = 3 ∧
  Cause.driverFault.code = 4 ∧
  ∀ s : State,
    (∃ w : Word, exec .rdRegCtrl s = .next { machinePart s with ports := { portsNow s with hRdata := w } } ∧
      w.toNat = s.repgap.toNat * 256 + s.diagEn.toNat * 8 + s.preEn.toNat * 4) ∧
    (∃ w : Word, exec .rdRegStatus s = .next { machinePart s with ports := { portsNow s with hRdata := w } } ∧
      w.toNat = s.cause.code.toNat * 16 + s.done.toNat * 2 + (decide (s.mode ≠ .idle)).toNat) ∧
    (∃ w : Word, exec .rdRegCount s = .next { machinePart s with ports := { portsNow s with hRdata := w } } ∧
      w.toNat = s.count.toNat) ∧
    (∃ w : Word, exec .rdRegMsgLen s = .next { machinePart s with ports := { portsNow s with hRdata := w } } ∧
      w.toNat = s.msgLen.toNat) ∧
    exec .rdRegUnitTicks s = .next { machinePart s with ports := { portsNow s with hRdata := s.unitTicks } } ∧
    (∀ j : BitVec 10, 4 * j.toNat < s.cfg.msgMax → 64 + j.toNat < 1024 →
      ∃ w : Word, exec (.rdMsg j) s = .next { machinePart s with ports := { portsNow s with hRdata := w } } ∧
        w.toNat = (s.msgByte (4 * j.toNat)).toNat + (s.msgByte (4 * j.toNat + 1)).toNat * 2 ^ 8 +
          (s.msgByte (4 * j.toNat + 2)).toNat * 2 ^ 16 + (s.msgByte (4 * j.toNat + 3)).toNat * 2 ^ 24) ∧
    (∀ o : BitVec 10, exec (.rdUnmapped o) s = .next { machinePart s with ports := { portsNow s with hRdata := 0 } })

/-- The reads straight after reset, for the build with MSG_MAX = 256 (the model's choice, log entry 1). -/
def Obligations.ReadsAfterReset : Prop :=
  (∃ t, exec .rdRegCtrl State.reset = .next t ∧ t.ports.hRdata = 0x00000700) ∧
  (∃ t, exec .rdRegStatus State.reset = .next t ∧ t.ports.hRdata = 0) ∧
  (∃ t, exec .rdRegCount State.reset = .next t ∧ t.ports.hRdata = 0) ∧
  (∃ t, exec .rdRegMsgLen State.reset = .next t ∧ t.ports.hRdata = 0) ∧
  (∃ t, exec .rdRegUnitTicks State.reset = .next t ∧ t.ports.hRdata = 0) ∧
  (∃ t, exec (.rdUnmapped 5) State.reset = .next t ∧ t.ports.hRdata = 0) ∧
  (∃ t, exec (.rdUnmapped 0x3F) State.reset = .next t ∧ t.ports.hRdata = 0) ∧
  (∃ t, exec (.rdUnmapped 0x3FF) State.reset = .next t ∧ t.ports.hRdata = 0)

/-! ### Host writes -/

/-- COUNT, MSG_LEN and UNIT_TICKS are written in IDLE, with the low bits of the data, and nothing else changes; while BUSY
the writes are ignored. -/
def Obligations.ConfigurationWritesAreTakenInIdleOnly : Prop :=
  ∀ (d : Word) (s : State),
    (s.mode = .idle →
      exec (.wrCount d) s = .next { s with count := d.extractLsb' 0 16, ports := portsNow s } ∧
      exec (.wrMsgLen d) s = .next { s with msgLen := d.extractLsb' 0 12, ports := portsNow s } ∧
      exec (.wrUnitTicks d) s = .next { s with unitTicks := d, ports := portsNow s }) ∧
    (s.mode ≠ .idle →
      exec (.wrCount d) s = .next { machinePart s with ports := portsNow s } ∧
      exec (.wrMsgLen d) s = .next { machinePart s with ports := portsNow s } ∧
      exec (.wrUnitTicks d) s = .next { machinePart s with ports := portsNow s })

/-- A CTRL write in IDLE with the START bit clear sets PRE_EN, DIAG_EN and REPGAP and nothing else, whether it is named
WR_CTRL or, with the CANCEL bit set, CANCEL. -/
def Obligations.CtrlWriteInIdleSetsItsFields : Prop :=
  ∀ (d : Word) (s : State), s.mode = .idle → d[0] = false →
    exec (.wrCtrl d) s =
      .next { s with preEn := d[2], diagEn := d[3], repgap := d.extractLsb' 8 4, ports := portsNow s } ∧
    exec (.cancel d) s =
      .next { s with preEn := d[2], diagEn := d[3], repgap := d.extractLsb' 8 4, ports := portsNow s }

/-- One write of offset 0x000 is WR_CTRL, START and CANCEL at once: the three instructions have one meaning on every data
word, so the name that the decoder gives a word (the model's choice, log entry 5) never changes what the write does. -/
def Obligations.CtrlWriteHasOneMeaningUnderItsThreeNames : Prop :=
  ∀ (d : Word) (s : State), exec (.start d) s = exec (.wrCtrl d) s ∧ exec (.cancel d) s = exec (.wrCtrl d) s

/-- A START accepted with a nonempty event sequence: the fields of the same write are used, the status is cleared, and the
first event is loaded whole; `E` is `transmit` of the registers and the message. -/
def Obligations.StartAcceptedBeginsTheRun : Prop :=
  ∀ (d : Word) (s : State) (e : Event), s.mode = .idle → d[0] = true → 1 ≤ s.count.toNat → 1 ≤ s.unitTicks.toNat →
    s.msgLen.toNat ≤ s.cfg.msgMax → 7 ≤ (d.extractLsb' 8 4).toNat →
    (transmit s.count.toNat s.message d[2] (d.extractLsb' 8 4))[0]? = some e →
    ∃ t : State,
      exec (.start d) s = .next t ∧
      t = { s with
        preEn := d[2], diagEn := d[3], repgap := d.extractLsb' 8 4, done := false, cause := .none
        cancelPend := false, k := 0, sched := schedule s.message, mode := .run, ticksLeft := t.ticksLeft
        ports := portsNow s } ∧
      t.ticksLeft.toNat = e.units.toNat * s.unitTicks.toNat ∧
      t.events = transmit s.count.toNat s.message d[2] (d.extractLsb' 8 4)

/-- A START accepted with an empty event sequence goes straight to END with DONE and cause OK; the next cycle, whatever the
host and the driver do in it, gives the release strobe and goes to IDLE. -/
def Obligations.StartOfAnEmptyRunGoesToEnd : Prop :=
  (∀ (d : Word) (s : State), s.mode = .idle → d[0] = true → s.count.toNat = 1 → 1 ≤ s.unitTicks.toNat →
    s.msgLen.toNat ≤ s.cfg.msgMax → 7 ≤ (d.extractLsb' 8 4).toNat → d[2] = false → schedule s.message = [] →
    exec (.start d) s = .next { s with
      preEn := false, diagEn := d[3], repgap := d.extractLsb' 8 4, done := true, cause := .ok
      cancelPend := false, k := 0, sched := [], mode := .ending, ports := portsNow s } ∧
    ∀ t : State, exec (.start d) s = .next t → t.sample.pins.rst = false →
      ∃ u, step t = .next u ∧ u.mode = .idle ∧ u.ports.release = true ∧ u.ports.ledOwn = false) ∧
  ∀ g : BitVec 4, transmit 3 [] false g = [repgapEvent g, repgapEvent g]

/-- A START is refused when any of the four checks fails: DONE and cause INVALID_ARG, the configuration bits of the write
are kept, and the keyer stays IDLE with the output untouched. -/
def Obligations.StartRefusedWhenACheckFails : Prop :=
  (∀ (d : Word) (s : State), s.mode = .idle → d[0] = true →
    (s.count.toNat = 0 ∨ s.unitTicks.toNat = 0 ∨ s.cfg.msgMax < s.msgLen.toNat ∨ (d.extractLsb' 8 4).toNat < 7) →
    ∃ t, exec (.start d) s = .next t ∧
      t = { s with preEn := d[2], diagEn := d[3], repgap := d.extractLsb' 8 4, done := true, cause := .invalidArg
                   ports := t.ports } ∧
      t.mode = .idle ∧ t.ports.led = false ∧ t.ports.ledOwn = false ∧ t.ports.release = false ∧
      (portsNow t).led = false ∧ (portsNow t).ledOwn = false ∧ (portsNow t).release = false) ∧
  ∃ t, exec (.start 0x701) State.reset = .next t ∧ statusWord t = 0x22

/-- A START while BUSY is ignored: the START bit of a CTRL write changes nothing, and with the CANCEL bit clear the cycle is
the machine's part alone. -/
def Obligations.StartWhileBusyIsIgnored : Prop :=
  ∀ (d : Word) (s : State), s.mode ≠ .idle →
    exec (.start d) s = exec (.wrCtrl (d &&& ~~~1)) s ∧
    (d[1] = false →
      exec (.start d) s = .next { machinePart s with ports := portsNow s } ∧
      exec (.wrCtrl d) s = .next { machinePart s with ports := portsNow s })

/-- A CANCEL in RUN sets `cancel_pend` and nothing else beside the machine's part of the cycle, which reads `cancel_pend`
from before the write: written in the last cycle of an event it misses that boundary. -/
def Obligations.CancelInRunIsLatched : Prop :=
  ∀ (d : Word) (s : State), s.mode = .run → d[1] = true →
    exec (.cancel d) s = .next { machinePart s with cancelPend := true, ports := portsNow s } ∧
    exec (.start d) s = .next { machinePart s with cancelPend := true, ports := portsNow s } ∧
    (∀ n, s.pins.drvFault = false → s.ticksLeft = 1 → s.events[s.k + 1]? = some n → s.cancelPend = false →
      exec (.cancel d) s = .next { s with
        k := s.k + 1, ticksLeft := eventTicks s n, cancelPend := true, ports := portsNow s })

/-- A CANCEL outside RUN is ignored: in END it changes nothing, in IDLE `cancel_pend` stays, and a START in the same write
begins its run with `cancel_pend` clear. -/
def Obligations.CancelOutsideRunIsIgnored : Prop :=
  ∀ (d : Word) (s : State), d[1] = true →
    (s.mode = .ending → exec (.cancel d) s = .next { s with mode := .idle, ports := portsNow s }) ∧
    (s.mode = .idle → d[0] = false → ∃ t, exec (.cancel d) s = .next t ∧ t.cancelPend = s.cancelPend ∧ t.mode = .idle) ∧
    (s.mode = .idle → d[0] = true → ∃ t, exec (.start d) s = .next t ∧
      (t.mode = .run → t.cancelPend = false) ∧ exec (.start (d &&& ~~~2)) s = .next t)

/-- A STATUS write of 1 to DONE clears DONE, in every mode, unless the run ends in that cycle; nothing else of STATUS can be
written. -/
def Obligations.StatusWriteClearsDoneUnlessTheRunEnds : Prop :=
  ∀ (d : Word) (s : State),
    (d[1] = true → ¬ (s.mode = .run ∧ (machinePart s).mode = .ending) →
      exec (.wrStatus d) s = .next { machinePart s with done := false, ports := portsNow s }) ∧
    (d[1] = true → s.mode = .run → (machinePart s).mode = .ending →
      exec (.wrStatus d) s = .next { machinePart s with ports := portsNow s } ∧ (machinePart s).done = true) ∧
    (d[1] = false → exec (.wrStatus d) s = .next { machinePart s with ports := portsNow s })

/-- A message write in IDLE stores the word's four bytes little-endian and changes no other byte and no other state; a read
of the word gives it back. While BUSY it is ignored. -/
def Obligations.MessageWriteStoresFourBytes : Prop :=
  ∀ (j : BitVec 10) (d : Word) (s : State), 4 * j.toNat < s.cfg.msgMax → 64 + j.toNat < 1024 →
    (s.mode = .idle →
      ∃ t, exec (.wrMsg j d) s = .next t ∧
        t = { s with msg := t.msg, ports := portsNow s } ∧
        (∀ b, b < 4 → t.msgByte (4 * j.toNat + b) = d.extractLsb' (8 * b) 8) ∧
        (∀ a, (a < 4 * j.toNat ∨ 4 * j.toNat + 4 ≤ a) → t.msgByte a = s.msgByte a) ∧
        (∃ u, exec (.rdMsg j) t = .next u ∧ u.ports.hRdata = d)) ∧
    (s.mode ≠ .idle → exec (.wrMsg j d) s = .next { machinePart s with ports := portsNow s })

/-- A write to an unmapped offset is ignored in every mode, and its read returns 0. The last clause says the same of the terms
WR_MSG and RD_MSG of a word beyond the message RAM, also of those for which the window has no offset: the decoder never makes
such a term, and its meaning is the model's choice (log entry 18). -/
def Obligations.UnmappedOffsetsReadZeroAndIgnoreWrites : Prop :=
  ∀ (o : BitVec 10) (d : Word) (s : State),
    exec (.wrUnmapped o d) s = .next { machinePart s with ports := portsNow s } ∧
    exec (.rdUnmapped o) s = .next { machinePart s with ports := { portsNow s with hRdata := 0 } } ∧
    (s.cfg.msgMax ≤ 4 * o.toNat →
      exec (.wrMsg o d) s = .next { machinePart s with ports := portsNow s } ∧
      exec (.rdMsg o) s = .next { machinePart s with ports := { portsNow s with hRdata := 0 } })

/-- While BUSY every write is ignored but a CANCEL in RUN and a DONE clear, so the configuration, the message RAM and the
events of the run hold their values, whatever the host writes. -/
def Obligations.ConfigurationIsFrozenWhileBusy : Prop :=
  ∀ s t : State, s.mode ≠ .idle → s.sample.pins.rst = false → step s = .next t →
    t = { machinePart s.sample with ports := t.ports, done := t.done, cancelPend := t.cancelPend } ∧
    (t.cancelPend ≠ s.cancelPend → s.mode = .run ∧ s.sample.pins.cancels) ∧
    (t.done ≠ (machinePart s.sample).done →
      s.sample.pins.hValid = true ∧ s.sample.pins.hWrite = true ∧ s.sample.pins.wordNumber = 1 ∧
        s.sample.pins.hWdata[1] = true) ∧
    t.count = s.count ∧ t.msgLen = s.msgLen ∧ t.unitTicks = s.unitTicks ∧ t.preEn = s.preEn ∧ t.diagEn = s.diagEn ∧
    t.repgap = s.repgap ∧ (∀ a, t.msgByte a = s.msgByte a) ∧ t.message = s.message ∧ t.events = s.events ∧ t.cfg = s.cfg

/-! ### Modes, reset and the machine as a whole -/

/-- In IDLE, with no reset, the machine changes nothing: only a host write changes state. With no access every output is
0. -/
def Obligations.IdleHoldsWithoutAHostWrite : Prop :=
  ∀ s : State, s.mode = .idle → s.sample.pins.rst = false →
    machinePart s.sample = s.sample ∧
    (¬ (s.sample.pins.hValid = true ∧ s.sample.pins.hWrite = true) →
      ∃ t, step s = .next t ∧ t = { s.sample with ports := t.ports }) ∧
    (s.sample.pins.hValid = false → step s = .next { s.sample with ports := Ports.zero })

/-- END lasts one cycle, whatever the host and the driver do in it: only a DONE clear is taken, and a START or CANCEL is
ignored. -/
def Obligations.EndLastsOneCycle : Prop :=
  ∀ s : State, s.mode = .ending → s.sample.pins.rst = false →
    ∃ t, step s = .next t ∧ t = { s.sample with mode := .idle, done := t.done, ports := t.ports } ∧
      (t.done = s.done ∨ t.done = false) ∧ t.ports.release = true ∧ t.ports.led = false ∧ t.ports.ledOwn = false

/-- The reset state is the table of R38. -/
def Obligations.ResetStateIsTheTable : Prop :=
  State.reset.mode = .idle ∧ State.reset.k = 0 ∧ State.reset.ticksLeft = 0 ∧ State.reset.cancelPend = false ∧
  State.reset.preEn = false ∧ State.reset.diagEn = false ∧ State.reset.repgap = 7 ∧ State.reset.done = false ∧
  State.reset.cause = .none ∧ State.reset.count = 0 ∧ State.reset.msgLen = 0 ∧ State.reset.unitTicks = 0 ∧
  (∀ i, Memory.read? State.reset.msg i = none) ∧
  State.reset.ports.led = false ∧ State.reset.ports.ledOwn = false ∧ State.reset.ports.release = false ∧
  State.reset.ports.diagValid = false ∧ portsNow State.reset = Ports.zero

/-- A cycle with `rst` = 1 gives the reset state, whatever the state, the access and `drv_fault` are; the message RAM becomes
unknown, and in the state after it every output is 0 (`portsNow`: the outputs of a cycle with no read). That the unknown
bytes are free values anew (`epoch`) and that the inputs to come and the build stay is the model's choice (log entries 2
and 4). -/
def Obligations.ResetWinsOverEverything : Prop :=
  ∀ s : State, s.sample.pins.rst = true →
    ∃ t, step s = .next t ∧
      t = { State.reset with
        ports := t.ports, pins := s.sample.pins, pending := s.sample.pending, epoch := s.epoch + 1, cfg := s.cfg } ∧
      (∀ i, Memory.read? t.msg i = none) ∧ portsNow t = Ports.zero

/-- Every step keeps the invariant of the machine. -/
def Obligations.EveryStepKeepsTheInvariant : Prop :=
  ∀ s t : State, s.Inv → step s = .next t → t.Inv

/-- The reset state, which is that of one build (the model's choice, log entry 1), has the invariant. -/
def Obligations.ResetHasTheInvariant : Prop := State.reset.Inv

/-- From a state with the invariant the machine never faults and never refuses: every access completes in its own cycle. -/
def Obligations.EveryStepCompletes : Prop := ∀ s : State, s.Inv → ∃ t, step s = .next t

/-- A cycle with a host access runs the decoded access: `step` samples the inputs and executes it. -/
def Obligations.StepRunsTheHostAccess : Prop :=
  ∀ (s : State) (w : BitVec 45), s.sample.pins.rst = false → s.sample.pins.access? = some w →
    decode s.cfg (.host45 w) = .ok (decodeHost s.cfg w) ∧ step s = exec (decodeHost s.cfg w) s.sample

/-- A RUN cycle without a host access runs the event on the output: `step` samples the inputs and executes the instruction
that its record decodes to. -/
def Obligations.StepRunsTheEventOnTheOutput : Prop :=
  ∀ (s : State) (e : Event) (i : Instr), s.mode = .run → s.sample.pins.rst = false → s.sample.pins.hValid = false →
    s.events[s.k]? = some e → decodeEvent e.pack = .ok i → step s = exec i s.sample

/-- The cycle of an accepted START runs the message: the events of the run are those that the instructions of the message's
characters emit, executed one after the other in increasing index from an empty list. That they run in this cycle is the
model's choice, which R25 allows (log entries 3 and 10). -/
def Obligations.StartRunsTheCharactersInOrder : Prop :=
  ∀ (d : Word) (s t : State), s.mode = .idle → d[0] = true → 1 ≤ s.count.toNat → 1 ≤ s.unitTicks.toNat →
    s.msgLen.toNat ≤ s.cfg.msgMax → 7 ≤ (d.extractLsb' 8 4).toNat → exec (.start d) s = .next t →
    s.message.length = s.msgLen.toNat ∧
    (∀ n, n < s.msgLen.toNat → s.message[n]? = some (s.msgByte n)) ∧
    ∃ u, s.message.foldl
        (fun o c => match o with
          | .next v => exec (decodeChar c) v
          | .fault r => .fault r
          | .refused r => .refused r)
        (.next { s with sched := [] }) = Host.Outcome.next u ∧
      t.sched = u.sched

/-- `LOADMSG`, run while IDLE: the text becomes the message, the bytes past it in its last word are 0x00, no other byte and no
other register changes, and the text "SOS" is the two writes that R93 prints. The cycles of a line have `rst` = 0 and
`drv_fault` = 0 (the model's choice, log entry 22). -/
def Obligations.LoadMsgStoresTheText : Prop :=
  (∀ (s : State) (text : List Byte), s.Inv → s.mode = .idle → text.length ≤ s.cfg.msgMax →
    (loadMsg text).length = (text.length + 3) / 4 + 1 ∧
    ∃ t, HostProgram.Runs (loadMsg text) s t ∧ t.message = text ∧ t.msgLen.toNat = text.length ∧
      (∀ a, text.length ≤ a → a < 4 * ((text.length + 3) / 4) → t.msgByte a = 0) ∧
      (∀ a, 4 * ((text.length + 3) / 4) ≤ a → t.msgByte a = s.msgByte a) ∧
      t = { s with msg := t.msg, msgLen := t.msgLen, pins := t.pins, ports := t.ports }) ∧
  loadMsg [0x53, 0x4F, 0x53] = [.wr 0x100 0x00534F53, .wr 0x00C 0x3]

/-- The start-up sequence with its steps in the order that R304 prints them (it allows others, which this does not cover), run
while IDLE with legal settings. After its START the events of the run are `transmit` of the settings and the text, the first
of them is on the output with its whole duration (with no event the keyer is in END), and the poll from there ends with a
STATUS read of 0x12 (DONE, cause OK) in IDLE; the registers and the message hold what the sequence wrote. The cycles of a
line have `rst` = 0 and `drv_fault` = 0 (the model's choice, log entry 22). -/
def Obligations.StartUpSequenceSendsTheMessage : Prop :=
  ∀ (s : State) (text : List Byte) (count : BitVec 16) (ticks : Word) (g : BitVec 4) (diag pre : Bool), s.Inv → s.mode = .idle →
    text.length ≤ s.cfg.msgMax → 1 ≤ count.toNat → 1 ≤ ticks.toNat → 7 ≤ g.toNat →
    ∃ m t : State,
      HostProgram.Runs (startLines text count ticks g diag pre) s m ∧
      m.events = transmit count.toNat text pre g ∧
      (∀ e, m.events[0]? = some e → m.mode = .run ∧ m.k = 0 ∧ m.ticksLeft.toNat = e.units.toNat * ticks.toNat ∧
        (portsNow m).led = decide (e.level = .on) ∧ (portsNow m).ledOwn = true) ∧
      (m.events = [] → m.mode = .ending) ∧
      HostProgram.Runs [awaitEnd] m t ∧
      HostProgram.Runs (startUp text count ticks g diag pre) s t ∧
      t.mode = .idle ∧ t.done = true ∧ t.cause = .ok ∧ t.ports.hRdata = 0x12 ∧ t.events = m.events ∧ t.message = text ∧
      t.count = count ∧ t.unitTicks = ticks ∧ t.repgap = g ∧ t.diagEn = diag ∧ t.preEn = pre ∧ t.pending = s.pending

/-- The seconds that an event lasts are its units times UNIT_TICKS over F_CLK, a whole number of Hz (the model's choice, log
entry 23). -/
def Obligations.EventSecondsAreUnitsTimesTicksOverClock : Prop :=
  ∀ (s : State) (e : Event),
    eventSeconds s e = ((e.units.toNat * s.unitTicks.toNat : Nat) : Rat) / (s.cfg.fClk : Rat)
end

