-- ==== Sys2Proof/Laws/Codec.lean ====
section
/-! SUPPORT. The fields of the packed encodings: each field of a packed word reads back as what was packed. -/

namespace Sys2Proof

/-! ### Host accesses (R87) -/

@[simp] theorem packAccess_write (write : Bool) (o : BitVec 10) (d : Word) : (packAccess write o d)[44] = write := by
  rw [← BitVec.getLsbD_eq_getElem]
  simp only [packAccess, BitVec.getLsbD_append]
  cases write <;> simp

@[simp] theorem packAccess_wordNumber (write : Bool) (o : BitVec 10) (d : Word) :
    (packAccess write o d).extractLsb' 34 10 = o := by
  apply BitVec.eq_of_getLsbD_eq
  intro i hi
  simp only [packAccess, BitVec.getLsbD_extractLsb', BitVec.getLsbD_append]
  simp [hi, show ¬ (34 + i < 32) by omega, show ¬ (34 + i - 32 < 2) by omega, show 34 + i - 32 - 2 = i by omega]

@[simp] theorem packAccess_data (write : Bool) (o : BitVec 10) (d : Word) :
    (packAccess write o d).extractLsb' 0 32 = d := by
  apply BitVec.eq_of_getLsbD_eq
  intro i hi
  simp only [packAccess, BitVec.getLsbD_extractLsb', BitVec.getLsbD_append]
  simp [hi]

/-- The bits that two packed accesses share. -/
theorem packAccess_and (w w' : Bool) (o o' : BitVec 10) (d d' : Word) :
    packAccess w o d &&& packAccess w' o' d' = packAccess (w && w') (o &&& o') (d &&& d') := by
  apply BitVec.eq_of_getLsbD_eq
  intro i hi
  simp only [packAccess, BitVec.getLsbD_and, BitVec.getLsbD_append]
  split_ifs
  · rfl
  · simp
  · rfl
  · cases w <;> cases w' <;> simp

/-! ### Event records (R85) -/

@[simp] theorem eventRecord_kind (k : BitVec 4) (u : BitVec 4) (l : BitVec 1) : (k ++ u ++ l).extractLsb' 5 4 = k := by
  revert k u l; decide

@[simp] theorem eventRecord_units (k : BitVec 4) (u : BitVec 4) (l : BitVec 1) : (k ++ u ++ l).extractLsb' 1 4 = u := by
  revert k u l; decide

/-! ### Operand fields (R27 to R30, R62) -/

namespace Machine

/-- The four bytes of a word, put together again, are the word (R62). -/
theorem wordOfBytes_wordByte (d : Word) : wordOfBytes (wordByte d 0) (wordByte d 1) (wordByte d 2) (wordByte d 3) = d := by
  apply BitVec.eq_of_getLsbD_eq
  intro i hi
  simp only [wordOfBytes, wordByte, BitVec.getLsbD_append, BitVec.getLsbD_extractLsb']
  split
  · simp_all
  · split
    · simp_all [show 8 + (i - 8) = i by omega]
    · split
      · simp_all [show 16 + (i - 8 - 8) = i by omega]
      · simp [show i - 8 - 8 - 8 < 8 by omega, show 24 + (i - 8 - 8 - 8) = i by omega]

theorem wordByte_toNat (d : Word) (b : Nat) : (wordByte d b).toNat = d.toNat / 2 ^ (8 * b) % 256 := by
  simp [wordByte, BitVec.extractLsb'_toNat, Nat.shiftRight_eq_div_pow]

theorem countValue_toNat (d : Word) : (countValue d).toNat = d.toNat % 65536 := by
  simp [countValue, BitVec.extractLsb'_toNat]

theorem msgLenValue_toNat (d : Word) : (msgLenValue d).toNat = d.toNat % 4096 := by
  simp [msgLenValue, BitVec.extractLsb'_toNat]

theorem ctrlRepgap_toNat (d : Word) : (ctrlRepgap d).toNat = d.toNat / 256 % 16 := by
  simp [ctrlRepgap, BitVec.extractLsb'_toNat, Nat.shiftRight_eq_div_pow]

end Machine

end Sys2Proof
end

