-- ==== Sys2Proof/Laws/State.lean ====
section
/-! SUPPORT. The small lemmas of the state: one per field per update of the record, each true by `rfl`, so that no proof
unfolds a record update. -/

namespace Sys2Proof.Machine

open Sys2Proof

/-! ### drive -/

@[simp] theorem drive_mode (p : Ports) (s : State) : (State.drive p s).mode = s.mode := rfl
@[simp] theorem drive_k (p : Ports) (s : State) : (State.drive p s).k = s.k := rfl
@[simp] theorem drive_ticksLeft (p : Ports) (s : State) : (State.drive p s).ticksLeft = s.ticksLeft := rfl
@[simp] theorem drive_cancelPend (p : Ports) (s : State) : (State.drive p s).cancelPend = s.cancelPend := rfl
@[simp] theorem drive_preEn (p : Ports) (s : State) : (State.drive p s).preEn = s.preEn := rfl
@[simp] theorem drive_diagEn (p : Ports) (s : State) : (State.drive p s).diagEn = s.diagEn := rfl
@[simp] theorem drive_repgap (p : Ports) (s : State) : (State.drive p s).repgap = s.repgap := rfl
@[simp] theorem drive_done (p : Ports) (s : State) : (State.drive p s).done = s.done := rfl
@[simp] theorem drive_cause (p : Ports) (s : State) : (State.drive p s).cause = s.cause := rfl
@[simp] theorem drive_count (p : Ports) (s : State) : (State.drive p s).count = s.count := rfl
@[simp] theorem drive_msgLen (p : Ports) (s : State) : (State.drive p s).msgLen = s.msgLen := rfl
@[simp] theorem drive_unitTicks (p : Ports) (s : State) : (State.drive p s).unitTicks = s.unitTicks := rfl
@[simp] theorem drive_msg (p : Ports) (s : State) : (State.drive p s).msg = s.msg := rfl
@[simp] theorem drive_pins (p : Ports) (s : State) : (State.drive p s).pins = s.pins := rfl
@[simp] theorem drive_ports (p : Ports) (s : State) : (State.drive p s).ports = p := rfl
@[simp] theorem drive_sched (p : Ports) (s : State) : (State.drive p s).sched = s.sched := rfl
@[simp] theorem drive_pending (p : Ports) (s : State) : (State.drive p s).pending = s.pending := rfl
@[simp] theorem drive_epoch (p : Ports) (s : State) : (State.drive p s).epoch = s.epoch := rfl
@[simp] theorem drive_cfg (p : Ports) (s : State) : (State.drive p s).cfg = s.cfg := rfl

/-! ### setCompletion -/

@[simp] theorem setCompletion_mode (c : Cause) (s : State) : (State.setCompletion c s).mode = s.mode := rfl
@[simp] theorem setCompletion_k (c : Cause) (s : State) : (State.setCompletion c s).k = s.k := rfl
@[simp] theorem setCompletion_ticksLeft (c : Cause) (s : State) : (State.setCompletion c s).ticksLeft = s.ticksLeft := rfl
@[simp] theorem setCompletion_cancelPend (c : Cause) (s : State) : (State.setCompletion c s).cancelPend = s.cancelPend := rfl
@[simp] theorem setCompletion_preEn (c : Cause) (s : State) : (State.setCompletion c s).preEn = s.preEn := rfl
@[simp] theorem setCompletion_diagEn (c : Cause) (s : State) : (State.setCompletion c s).diagEn = s.diagEn := rfl
@[simp] theorem setCompletion_repgap (c : Cause) (s : State) : (State.setCompletion c s).repgap = s.repgap := rfl
@[simp] theorem setCompletion_done (c : Cause) (s : State) : (State.setCompletion c s).done = true := rfl
@[simp] theorem setCompletion_cause (c : Cause) (s : State) : (State.setCompletion c s).cause = c := rfl
@[simp] theorem setCompletion_count (c : Cause) (s : State) : (State.setCompletion c s).count = s.count := rfl
@[simp] theorem setCompletion_msgLen (c : Cause) (s : State) : (State.setCompletion c s).msgLen = s.msgLen := rfl
@[simp] theorem setCompletion_unitTicks (c : Cause) (s : State) : (State.setCompletion c s).unitTicks = s.unitTicks := rfl
@[simp] theorem setCompletion_msg (c : Cause) (s : State) : (State.setCompletion c s).msg = s.msg := rfl
@[simp] theorem setCompletion_pins (c : Cause) (s : State) : (State.setCompletion c s).pins = s.pins := rfl
@[simp] theorem setCompletion_ports (c : Cause) (s : State) : (State.setCompletion c s).ports = s.ports := rfl
@[simp] theorem setCompletion_sched (c : Cause) (s : State) : (State.setCompletion c s).sched = s.sched := rfl
@[simp] theorem setCompletion_pending (c : Cause) (s : State) : (State.setCompletion c s).pending = s.pending := rfl
@[simp] theorem setCompletion_epoch (c : Cause) (s : State) : (State.setCompletion c s).epoch = s.epoch := rfl
@[simp] theorem setCompletion_cfg (c : Cause) (s : State) : (State.setCompletion c s).cfg = s.cfg := rfl

/-! ### clearCompletion -/

@[simp] theorem clearCompletion_mode (s : State) : (State.clearCompletion s).mode = s.mode := rfl
@[simp] theorem clearCompletion_k (s : State) : (State.clearCompletion s).k = s.k := rfl
@[simp] theorem clearCompletion_ticksLeft (s : State) : (State.clearCompletion s).ticksLeft = s.ticksLeft := rfl
@[simp] theorem clearCompletion_cancelPend (s : State) : (State.clearCompletion s).cancelPend = s.cancelPend := rfl
@[simp] theorem clearCompletion_preEn (s : State) : (State.clearCompletion s).preEn = s.preEn := rfl
@[simp] theorem clearCompletion_diagEn (s : State) : (State.clearCompletion s).diagEn = s.diagEn := rfl
@[simp] theorem clearCompletion_repgap (s : State) : (State.clearCompletion s).repgap = s.repgap := rfl
@[simp] theorem clearCompletion_done (s : State) : (State.clearCompletion s).done = false := rfl
@[simp] theorem clearCompletion_cause (s : State) : (State.clearCompletion s).cause = .none := rfl
@[simp] theorem clearCompletion_count (s : State) : (State.clearCompletion s).count = s.count := rfl
@[simp] theorem clearCompletion_msgLen (s : State) : (State.clearCompletion s).msgLen = s.msgLen := rfl
@[simp] theorem clearCompletion_unitTicks (s : State) : (State.clearCompletion s).unitTicks = s.unitTicks := rfl
@[simp] theorem clearCompletion_msg (s : State) : (State.clearCompletion s).msg = s.msg := rfl
@[simp] theorem clearCompletion_pins (s : State) : (State.clearCompletion s).pins = s.pins := rfl
@[simp] theorem clearCompletion_ports (s : State) : (State.clearCompletion s).ports = s.ports := rfl
@[simp] theorem clearCompletion_sched (s : State) : (State.clearCompletion s).sched = s.sched := rfl
@[simp] theorem clearCompletion_pending (s : State) : (State.clearCompletion s).pending = s.pending := rfl
@[simp] theorem clearCompletion_epoch (s : State) : (State.clearCompletion s).epoch = s.epoch := rfl
@[simp] theorem clearCompletion_cfg (s : State) : (State.clearCompletion s).cfg = s.cfg := rfl

/-! ### clearDone -/

@[simp] theorem clearDone_mode (s : State) : (State.clearDone s).mode = s.mode := rfl
@[simp] theorem clearDone_k (s : State) : (State.clearDone s).k = s.k := rfl
@[simp] theorem clearDone_ticksLeft (s : State) : (State.clearDone s).ticksLeft = s.ticksLeft := rfl
@[simp] theorem clearDone_cancelPend (s : State) : (State.clearDone s).cancelPend = s.cancelPend := rfl
@[simp] theorem clearDone_preEn (s : State) : (State.clearDone s).preEn = s.preEn := rfl
@[simp] theorem clearDone_diagEn (s : State) : (State.clearDone s).diagEn = s.diagEn := rfl
@[simp] theorem clearDone_repgap (s : State) : (State.clearDone s).repgap = s.repgap := rfl
@[simp] theorem clearDone_done (s : State) : (State.clearDone s).done = false := rfl
@[simp] theorem clearDone_cause (s : State) : (State.clearDone s).cause = s.cause := rfl
@[simp] theorem clearDone_count (s : State) : (State.clearDone s).count = s.count := rfl
@[simp] theorem clearDone_msgLen (s : State) : (State.clearDone s).msgLen = s.msgLen := rfl
@[simp] theorem clearDone_unitTicks (s : State) : (State.clearDone s).unitTicks = s.unitTicks := rfl
@[simp] theorem clearDone_msg (s : State) : (State.clearDone s).msg = s.msg := rfl
@[simp] theorem clearDone_pins (s : State) : (State.clearDone s).pins = s.pins := rfl
@[simp] theorem clearDone_ports (s : State) : (State.clearDone s).ports = s.ports := rfl
@[simp] theorem clearDone_sched (s : State) : (State.clearDone s).sched = s.sched := rfl
@[simp] theorem clearDone_pending (s : State) : (State.clearDone s).pending = s.pending := rfl
@[simp] theorem clearDone_epoch (s : State) : (State.clearDone s).epoch = s.epoch := rfl
@[simp] theorem clearDone_cfg (s : State) : (State.clearDone s).cfg = s.cfg := rfl

/-! ### finish -/

@[simp] theorem finish_mode (c : Cause) (s : State) : (finish c s).mode = .ending := rfl
@[simp] theorem finish_k (c : Cause) (s : State) : (finish c s).k = s.k := rfl
@[simp] theorem finish_ticksLeft (c : Cause) (s : State) : (finish c s).ticksLeft = s.ticksLeft := rfl
@[simp] theorem finish_cancelPend (c : Cause) (s : State) : (finish c s).cancelPend = s.cancelPend := rfl
@[simp] theorem finish_preEn (c : Cause) (s : State) : (finish c s).preEn = s.preEn := rfl
@[simp] theorem finish_diagEn (c : Cause) (s : State) : (finish c s).diagEn = s.diagEn := rfl
@[simp] theorem finish_repgap (c : Cause) (s : State) : (finish c s).repgap = s.repgap := rfl
@[simp] theorem finish_done (c : Cause) (s : State) : (finish c s).done = true := rfl
@[simp] theorem finish_cause (c : Cause) (s : State) : (finish c s).cause = c := rfl
@[simp] theorem finish_count (c : Cause) (s : State) : (finish c s).count = s.count := rfl
@[simp] theorem finish_msgLen (c : Cause) (s : State) : (finish c s).msgLen = s.msgLen := rfl
@[simp] theorem finish_unitTicks (c : Cause) (s : State) : (finish c s).unitTicks = s.unitTicks := rfl
@[simp] theorem finish_msg (c : Cause) (s : State) : (finish c s).msg = s.msg := rfl
@[simp] theorem finish_pins (c : Cause) (s : State) : (finish c s).pins = s.pins := rfl
@[simp] theorem finish_ports (c : Cause) (s : State) : (finish c s).ports = s.ports := rfl
@[simp] theorem finish_sched (c : Cause) (s : State) : (finish c s).sched = s.sched := rfl
@[simp] theorem finish_pending (c : Cause) (s : State) : (finish c s).pending = s.pending := rfl
@[simp] theorem finish_epoch (c : Cause) (s : State) : (finish c s).epoch = s.epoch := rfl
@[simp] theorem finish_cfg (c : Cause) (s : State) : (finish c s).cfg = s.cfg := rfl

/-! ### leaveEnd -/

@[simp] theorem leaveEnd_mode (s : State) : (leaveEnd s).mode = .idle := rfl
@[simp] theorem leaveEnd_k (s : State) : (leaveEnd s).k = s.k := rfl
@[simp] theorem leaveEnd_ticksLeft (s : State) : (leaveEnd s).ticksLeft = s.ticksLeft := rfl
@[simp] theorem leaveEnd_cancelPend (s : State) : (leaveEnd s).cancelPend = s.cancelPend := rfl
@[simp] theorem leaveEnd_preEn (s : State) : (leaveEnd s).preEn = s.preEn := rfl
@[simp] theorem leaveEnd_diagEn (s : State) : (leaveEnd s).diagEn = s.diagEn := rfl
@[simp] theorem leaveEnd_repgap (s : State) : (leaveEnd s).repgap = s.repgap := rfl
@[simp] theorem leaveEnd_done (s : State) : (leaveEnd s).done = s.done := rfl
@[simp] theorem leaveEnd_cause (s : State) : (leaveEnd s).cause = s.cause := rfl
@[simp] theorem leaveEnd_count (s : State) : (leaveEnd s).count = s.count := rfl
@[simp] theorem leaveEnd_msgLen (s : State) : (leaveEnd s).msgLen = s.msgLen := rfl
@[simp] theorem leaveEnd_unitTicks (s : State) : (leaveEnd s).unitTicks = s.unitTicks := rfl
@[simp] theorem leaveEnd_msg (s : State) : (leaveEnd s).msg = s.msg := rfl
@[simp] theorem leaveEnd_pins (s : State) : (leaveEnd s).pins = s.pins := rfl
@[simp] theorem leaveEnd_ports (s : State) : (leaveEnd s).ports = s.ports := rfl
@[simp] theorem leaveEnd_sched (s : State) : (leaveEnd s).sched = s.sched := rfl
@[simp] theorem leaveEnd_pending (s : State) : (leaveEnd s).pending = s.pending := rfl
@[simp] theorem leaveEnd_epoch (s : State) : (leaveEnd s).epoch = s.epoch := rfl
@[simp] theorem leaveEnd_cfg (s : State) : (leaveEnd s).cfg = s.cfg := rfl

/-! ### setCtrlFields -/

@[simp] theorem setCtrlFields_mode (d : Word) (s : State) : (setCtrlFields d s).mode = s.mode := rfl
@[simp] theorem setCtrlFields_k (d : Word) (s : State) : (setCtrlFields d s).k = s.k := rfl
@[simp] theorem setCtrlFields_ticksLeft (d : Word) (s : State) : (setCtrlFields d s).ticksLeft = s.ticksLeft := rfl
@[simp] theorem setCtrlFields_cancelPend (d : Word) (s : State) : (setCtrlFields d s).cancelPend = s.cancelPend := rfl
@[simp] theorem setCtrlFields_preEn (d : Word) (s : State) : (setCtrlFields d s).preEn = ctrlPreEn d := rfl
@[simp] theorem setCtrlFields_diagEn (d : Word) (s : State) : (setCtrlFields d s).diagEn = ctrlDiagEn d := rfl
@[simp] theorem setCtrlFields_repgap (d : Word) (s : State) : (setCtrlFields d s).repgap = ctrlRepgap d := rfl
@[simp] theorem setCtrlFields_done (d : Word) (s : State) : (setCtrlFields d s).done = s.done := rfl
@[simp] theorem setCtrlFields_cause (d : Word) (s : State) : (setCtrlFields d s).cause = s.cause := rfl
@[simp] theorem setCtrlFields_count (d : Word) (s : State) : (setCtrlFields d s).count = s.count := rfl
@[simp] theorem setCtrlFields_msgLen (d : Word) (s : State) : (setCtrlFields d s).msgLen = s.msgLen := rfl
@[simp] theorem setCtrlFields_unitTicks (d : Word) (s : State) : (setCtrlFields d s).unitTicks = s.unitTicks := rfl
@[simp] theorem setCtrlFields_msg (d : Word) (s : State) : (setCtrlFields d s).msg = s.msg := rfl
@[simp] theorem setCtrlFields_pins (d : Word) (s : State) : (setCtrlFields d s).pins = s.pins := rfl
@[simp] theorem setCtrlFields_ports (d : Word) (s : State) : (setCtrlFields d s).ports = s.ports := rfl
@[simp] theorem setCtrlFields_sched (d : Word) (s : State) : (setCtrlFields d s).sched = s.sched := rfl
@[simp] theorem setCtrlFields_pending (d : Word) (s : State) : (setCtrlFields d s).pending = s.pending := rfl
@[simp] theorem setCtrlFields_epoch (d : Word) (s : State) : (setCtrlFields d s).epoch = s.epoch := rfl
@[simp] theorem setCtrlFields_cfg (d : Word) (s : State) : (setCtrlFields d s).cfg = s.cfg := rfl

/-! ### emitToken -/

@[simp] theorem emitToken_mode (t : Token) (s : State) : (emitToken t s).mode = s.mode := rfl
@[simp] theorem emitToken_k (t : Token) (s : State) : (emitToken t s).k = s.k := rfl
@[simp] theorem emitToken_ticksLeft (t : Token) (s : State) : (emitToken t s).ticksLeft = s.ticksLeft := rfl
@[simp] theorem emitToken_cancelPend (t : Token) (s : State) : (emitToken t s).cancelPend = s.cancelPend := rfl
@[simp] theorem emitToken_preEn (t : Token) (s : State) : (emitToken t s).preEn = s.preEn := rfl
@[simp] theorem emitToken_diagEn (t : Token) (s : State) : (emitToken t s).diagEn = s.diagEn := rfl
@[simp] theorem emitToken_repgap (t : Token) (s : State) : (emitToken t s).repgap = s.repgap := rfl
@[simp] theorem emitToken_done (t : Token) (s : State) : (emitToken t s).done = s.done := rfl
@[simp] theorem emitToken_cause (t : Token) (s : State) : (emitToken t s).cause = s.cause := rfl
@[simp] theorem emitToken_count (t : Token) (s : State) : (emitToken t s).count = s.count := rfl
@[simp] theorem emitToken_msgLen (t : Token) (s : State) : (emitToken t s).msgLen = s.msgLen := rfl
@[simp] theorem emitToken_unitTicks (t : Token) (s : State) : (emitToken t s).unitTicks = s.unitTicks := rfl
@[simp] theorem emitToken_msg (t : Token) (s : State) : (emitToken t s).msg = s.msg := rfl
@[simp] theorem emitToken_pins (t : Token) (s : State) : (emitToken t s).pins = s.pins := rfl
@[simp] theorem emitToken_ports (t : Token) (s : State) : (emitToken t s).ports = s.ports := rfl
@[simp] theorem emitToken_sched (t : Token) (s : State) : (emitToken t s).sched = s.sched ++ tokenEvents t := rfl
@[simp] theorem emitToken_pending (t : Token) (s : State) : (emitToken t s).pending = s.pending := rfl
@[simp] theorem emitToken_epoch (t : Token) (s : State) : (emitToken t s).epoch = s.epoch := rfl
@[simp] theorem emitToken_cfg (t : Token) (s : State) : (emitToken t s).cfg = s.cfg := rfl

/-! ### refuseStart -/

@[simp] theorem refuseStart_mode (s : State) : (refuseStart s).mode = s.mode := rfl
@[simp] theorem refuseStart_k (s : State) : (refuseStart s).k = s.k := rfl
@[simp] theorem refuseStart_ticksLeft (s : State) : (refuseStart s).ticksLeft = s.ticksLeft := rfl
@[simp] theorem refuseStart_cancelPend (s : State) : (refuseStart s).cancelPend = s.cancelPend := rfl
@[simp] theorem refuseStart_preEn (s : State) : (refuseStart s).preEn = s.preEn := rfl
@[simp] theorem refuseStart_diagEn (s : State) : (refuseStart s).diagEn = s.diagEn := rfl
@[simp] theorem refuseStart_repgap (s : State) : (refuseStart s).repgap = s.repgap := rfl
@[simp] theorem refuseStart_done (s : State) : (refuseStart s).done = true := rfl
@[simp] theorem refuseStart_cause (s : State) : (refuseStart s).cause = .invalidArg := rfl
@[simp] theorem refuseStart_count (s : State) : (refuseStart s).count = s.count := rfl
@[simp] theorem refuseStart_msgLen (s : State) : (refuseStart s).msgLen = s.msgLen := rfl
@[simp] theorem refuseStart_unitTicks (s : State) : (refuseStart s).unitTicks = s.unitTicks := rfl
@[simp] theorem refuseStart_msg (s : State) : (refuseStart s).msg = s.msg := rfl
@[simp] theorem refuseStart_pins (s : State) : (refuseStart s).pins = s.pins := rfl
@[simp] theorem refuseStart_ports (s : State) : (refuseStart s).ports = s.ports := rfl
@[simp] theorem refuseStart_sched (s : State) : (refuseStart s).sched = s.sched := rfl
@[simp] theorem refuseStart_pending (s : State) : (refuseStart s).pending = s.pending := rfl
@[simp] theorem refuseStart_epoch (s : State) : (refuseStart s).epoch = s.epoch := rfl
@[simp] theorem refuseStart_cfg (s : State) : (refuseStart s).cfg = s.cfg := rfl

/-! ### emptyRun -/

@[simp] theorem emptyRun_mode (s : State) : (emptyRun s).mode = .ending := rfl
@[simp] theorem emptyRun_k (s : State) : (emptyRun s).k = s.k := rfl
@[simp] theorem emptyRun_ticksLeft (s : State) : (emptyRun s).ticksLeft = s.ticksLeft := rfl
@[simp] theorem emptyRun_cancelPend (s : State) : (emptyRun s).cancelPend = s.cancelPend := rfl
@[simp] theorem emptyRun_preEn (s : State) : (emptyRun s).preEn = s.preEn := rfl
@[simp] theorem emptyRun_diagEn (s : State) : (emptyRun s).diagEn = s.diagEn := rfl
@[simp] theorem emptyRun_repgap (s : State) : (emptyRun s).repgap = s.repgap := rfl
@[simp] theorem emptyRun_done (s : State) : (emptyRun s).done = true := rfl
@[simp] theorem emptyRun_cause (s : State) : (emptyRun s).cause = .ok := rfl
@[simp] theorem emptyRun_count (s : State) : (emptyRun s).count = s.count := rfl
@[simp] theorem emptyRun_msgLen (s : State) : (emptyRun s).msgLen = s.msgLen := rfl
@[simp] theorem emptyRun_unitTicks (s : State) : (emptyRun s).unitTicks = s.unitTicks := rfl
@[simp] theorem emptyRun_msg (s : State) : (emptyRun s).msg = s.msg := rfl
@[simp] theorem emptyRun_pins (s : State) : (emptyRun s).pins = s.pins := rfl
@[simp] theorem emptyRun_ports (s : State) : (emptyRun s).ports = s.ports := rfl
@[simp] theorem emptyRun_sched (s : State) : (emptyRun s).sched = s.sched := rfl
@[simp] theorem emptyRun_pending (s : State) : (emptyRun s).pending = s.pending := rfl
@[simp] theorem emptyRun_epoch (s : State) : (emptyRun s).epoch = s.epoch := rfl
@[simp] theorem emptyRun_cfg (s : State) : (emptyRun s).cfg = s.cfg := rfl

/-! ### setMsgWord -/

@[simp] theorem setMsgWord_mode (j : Nat) (d : Word) (s : State) : (State.setMsgWord j d s).mode = s.mode := rfl
@[simp] theorem setMsgWord_k (j : Nat) (d : Word) (s : State) : (State.setMsgWord j d s).k = s.k := rfl
@[simp] theorem setMsgWord_ticksLeft (j : Nat) (d : Word) (s : State) : (State.setMsgWord j d s).ticksLeft = s.ticksLeft := rfl
@[simp] theorem setMsgWord_cancelPend (j : Nat) (d : Word) (s : State) : (State.setMsgWord j d s).cancelPend = s.cancelPend := rfl
@[simp] theorem setMsgWord_preEn (j : Nat) (d : Word) (s : State) : (State.setMsgWord j d s).preEn = s.preEn := rfl
@[simp] theorem setMsgWord_diagEn (j : Nat) (d : Word) (s : State) : (State.setMsgWord j d s).diagEn = s.diagEn := rfl
@[simp] theorem setMsgWord_repgap (j : Nat) (d : Word) (s : State) : (State.setMsgWord j d s).repgap = s.repgap := rfl
@[simp] theorem setMsgWord_done (j : Nat) (d : Word) (s : State) : (State.setMsgWord j d s).done = s.done := rfl
@[simp] theorem setMsgWord_cause (j : Nat) (d : Word) (s : State) : (State.setMsgWord j d s).cause = s.cause := rfl
@[simp] theorem setMsgWord_count (j : Nat) (d : Word) (s : State) : (State.setMsgWord j d s).count = s.count := rfl
@[simp] theorem setMsgWord_msgLen (j : Nat) (d : Word) (s : State) : (State.setMsgWord j d s).msgLen = s.msgLen := rfl
@[simp] theorem setMsgWord_unitTicks (j : Nat) (d : Word) (s : State) : (State.setMsgWord j d s).unitTicks = s.unitTicks := rfl
@[simp] theorem setMsgWord_pins (j : Nat) (d : Word) (s : State) : (State.setMsgWord j d s).pins = s.pins := rfl
@[simp] theorem setMsgWord_ports (j : Nat) (d : Word) (s : State) : (State.setMsgWord j d s).ports = s.ports := rfl
@[simp] theorem setMsgWord_sched (j : Nat) (d : Word) (s : State) : (State.setMsgWord j d s).sched = s.sched := rfl
@[simp] theorem setMsgWord_pending (j : Nat) (d : Word) (s : State) : (State.setMsgWord j d s).pending = s.pending := rfl
@[simp] theorem setMsgWord_epoch (j : Nat) (d : Word) (s : State) : (State.setMsgWord j d s).epoch = s.epoch := rfl
@[simp] theorem setMsgWord_cfg (j : Nat) (d : Word) (s : State) : (State.setMsgWord j d s).cfg = s.cfg := rfl

/-! ### reset -/

@[simp] theorem reset_mode : State.reset.mode = .idle := rfl
@[simp] theorem reset_k : State.reset.k = 0 := rfl
@[simp] theorem reset_ticksLeft : State.reset.ticksLeft = 0 := rfl
@[simp] theorem reset_cancelPend : State.reset.cancelPend = false := rfl
@[simp] theorem reset_preEn : State.reset.preEn = false := rfl
@[simp] theorem reset_diagEn : State.reset.diagEn = false := rfl
@[simp] theorem reset_repgap : State.reset.repgap = 7 := rfl
@[simp] theorem reset_done : State.reset.done = false := rfl
@[simp] theorem reset_cause : State.reset.cause = .none := rfl
@[simp] theorem reset_count : State.reset.count = 0 := rfl
@[simp] theorem reset_msgLen : State.reset.msgLen = 0 := rfl
@[simp] theorem reset_unitTicks : State.reset.unitTicks = 0 := rfl
@[simp] theorem reset_msg : State.reset.msg = [] := rfl
@[simp] theorem reset_pins : State.reset.pins = Pins.quiet := rfl
@[simp] theorem reset_ports : State.reset.ports = Ports.zero := rfl
@[simp] theorem reset_sched : State.reset.sched = [] := rfl
@[simp] theorem reset_pending : State.reset.pending = [] := rfl
@[simp] theorem reset_epoch : State.reset.epoch = 0 := rfl
@[simp] theorem reset_cfg : State.reset.cfg = Config.table := rfl

end Sys2Proof.Machine
end

