-- ==== Sys2Proof/Laws/Memory.lean ====
section
/-! SUPPORT. The laws of the message RAM: a byte written is the byte read, every other byte is left alone, and every
operation keeps the canonical form. -/

namespace Sys2Proof.Machine

open Sys2Proof

@[simp] theorem Memory.read?_write_same (m : Memory) (a : Nat) (v : Byte) : Memory.read? (Memory.write m a v) a = some v := by
  induction m with
  | nil => simp [Memory.write, Memory.read?]
  | cons c rest ih =>
    obtain ⟨i, b⟩ := c
    by_cases h1 : a < i
    · simp [Memory.write, Memory.read?, h1]
    · by_cases h2 : a = i
      · simp [Memory.write, Memory.read?, h2]
      · have h3 : i ≠ a := fun h => h2 h.symm
        simp [Memory.write, Memory.read?, h1, h2, h3, ih]

theorem Memory.read?_write_other {a a' : Nat} (h : a' ≠ a) (m : Memory) (v : Byte) :
    Memory.read? (Memory.write m a v) a' = Memory.read? m a' := by
  induction m with
  | nil => simp [Memory.write, Memory.read?, h.symm]
  | cons c rest ih =>
    obtain ⟨i, b⟩ := c
    by_cases h1 : a < i
    · simp [Memory.write, Memory.read?, h1, h.symm]
    · by_cases h2 : a = i
      · subst h2; simp [Memory.write, Memory.read?, h.symm]
      · simp [Memory.write, Memory.read?, h1, h2, ih]

theorem Memory.read?_write (m : Memory) (a a' : Nat) (v : Byte) :
    Memory.read? (Memory.write m a v) a' = if a' = a then some v else Memory.read? m a' := by
  by_cases h : a' = a
  · subst h; simp
  · simp [Memory.read?_write_other h, h]

/-- The indices after a write: those before it, and the index written. -/
theorem Memory.mem_write {m : Memory} {a : Nat} {v : Byte} {c : Host.Cell} (h : c ∈ Memory.write m a v) :
    c = (a, v) ∨ c ∈ m := by
  induction m with
  | nil => simpa [Memory.write] using h
  | cons d rest ih =>
    obtain ⟨i, b⟩ := d
    by_cases h1 : a < i
    · simpa [Memory.write, h1] using h
    · by_cases h2 : a = i
      · subst h2
        simp only [Memory.write, lt_irrefl, if_false, if_true, List.mem_cons] at h
        rcases h with h | h
        · exact .inl h
        · exact .inr (List.mem_cons_of_mem _ h)
      · simp only [Memory.write, h1, h2, if_false, List.mem_cons] at h
        rcases h with h | h
        · exact .inr (by simp [h])
        · rcases ih h with h | h
          · exact .inl h
          · exact .inr (List.mem_cons_of_mem _ h)

/-- A write keeps the canonical form. -/
theorem Memory.wf_write {m : Memory} (h : Memory.wf m) (a : Nat) (v : Byte) : Memory.wf (Memory.write m a v) := by
  induction m with
  | nil => simp [Memory.wf, Memory.write]
  | cons d rest ih =>
    obtain ⟨i, b⟩ := d
    have hrest : Memory.wf rest := by
      simp only [Memory.wf, List.map_cons, List.pairwise_cons] at h ⊢
      exact h.2
    have hi : ∀ c ∈ rest, i < c.1 := by
      intro c hc
      simp only [Memory.wf, List.map_cons, List.pairwise_cons] at h
      exact h.1 c.1 (List.mem_map_of_mem hc)
    by_cases h1 : a < i
    · simp only [Memory.wf, Memory.write, h1, if_true, List.map_cons, List.pairwise_cons, List.mem_cons]
      refine ⟨?_, ?_, ?_⟩
      · rintro x (rfl | hx)
        · exact h1
        · obtain ⟨c, hc, rfl⟩ := List.mem_map.1 hx
          exact lt_trans h1 (hi c hc)
      · intro x hx
        obtain ⟨c, hc, rfl⟩ := List.mem_map.1 hx
        exact hi c hc
      · exact hrest
    · by_cases h2 : a = i
      · subst h2
        simp only [Memory.wf, Memory.write, lt_irrefl, if_false, if_true, List.map_cons, List.pairwise_cons]
        refine ⟨?_, hrest⟩
        intro x hx
        obtain ⟨c, hc, rfl⟩ := List.mem_map.1 hx
        exact hi c hc
      · simp only [Memory.wf, Memory.write, h1, h2, if_false, List.map_cons, List.pairwise_cons]
        refine ⟨?_, ih hrest⟩
        intro x hx
        obtain ⟨c, hc, rfl⟩ := List.mem_map.1 hx
        rcases Memory.mem_write hc with hc | hc
        · subst hc; show i < a; omega
        · exact hi c hc

/-- A write of a message word keeps the canonical form. -/
theorem setMsgWord_wf {s : State} (h : Memory.wf s.msg) (j : Nat) (d : Word) : Memory.wf (State.setMsgWord j d s).msg :=
  Memory.wf_write (Memory.wf_write (Memory.wf_write (Memory.wf_write h _ _) _ _) _ _) _ _

/-- A write of a message word lists no index but its own four. -/
theorem mem_setMsgWord {s : State} {j : Nat} {d : Word} {c : Host.Cell} (h : c ∈ (State.setMsgWord j d s).msg) :
    (4 * j ≤ c.1 ∧ c.1 < 4 * j + 4) ∨ c ∈ s.msg := by
  rcases Memory.mem_write h with h | h
  · subst h; left; constructor <;> simp
  rcases Memory.mem_write h with h | h
  · subst h; left; constructor <;> simp
  rcases Memory.mem_write h with h | h
  · subst h; left; constructor <;> simp
  rcases Memory.mem_write h with h | h
  · subst h; left; constructor <;> simp
  · exact .inr h

/-- The reset state's message RAM has the canonical form. -/
theorem reset_msg_wf : Memory.wf State.reset.msg := by simp [Memory.wf]

/-- A byte of the message RAM is read from the listed bytes and the epoch alone. -/
theorem msgByte_congr {s t : State} (hm : s.msg = t.msg) (he : s.epoch = t.epoch) (i : Nat) :
    s.msgByte i = t.msgByte i := by
  simp [State.msgByte, hm, he]

end Sys2Proof.Machine
end

