-- ==== Sys2Proof/Laws/Encoder.lean ====
section
/-! SUPPORT. The laws of the encoder and the scheduler that every proof about characters cites. -/

namespace Sys2Proof.Machine

open Sys2Proof

/-- The ROM holds no reserved word, so the fallback of `encodeChar` is never taken (R142, log entry 6). -/
theorem decodeRom_rom_isSome (a : Byte) : (decodeRom (rom a)).isSome = true := by
  revert a; decide

theorem decodeRom_rom_fold (c : Byte) : decodeRom (rom (fold c)) = some (encodeChar c) := by
  have h := decodeRom_rom_isSome (fold c)
  unfold encodeChar
  cases hd : decodeRom (rom (fold c)) with
  | none => rw [hd] at h; cases h
  | some t => rfl

@[simp] theorem tokenEvents_unknown : tokenEvents .unknown = [] := rfl
@[simp] theorem tokenEvents_wordGap : tokenEvents .wordGap = [wordgapEvent] := rfl
@[simp] theorem tokenEvents_letter (ss : List Symbol) : tokenEvents (.letter ss) = letterEvents ss := rfl
@[simp] theorem letterEvents_nil : letterEvents [] = [] := rfl
@[simp] theorem letterEvents_single (s : Symbol) : letterEvents [s] = [symbolEvent s, lettergapEvent] := rfl
@[simp] theorem letterEvents_cons_cons (s t : Symbol) (ss : List Symbol) :
    letterEvents (s :: t :: ss) = symbolEvent s :: symgapEvent :: letterEvents (t :: ss) := rfl
@[simp] theorem symbolEvent_dot : symbolEvent .dot = dotEvent := rfl
@[simp] theorem symbolEvent_dash : symbolEvent .dash = dashEvent := rfl

@[simp] theorem schedule_nil : schedule [] = [] := rfl
@[simp] theorem schedule_cons (c : Byte) (msg : List Byte) :
    schedule (c :: msg) = tokenEvents (encodeChar c) ++ schedule msg := by simp [schedule]
theorem schedule_append (m n : List Byte) : schedule (m ++ n) = schedule m ++ schedule n := by simp [schedule]

@[simp] theorem totalUnits_nil : totalUnits [] = 0 := rfl
@[simp] theorem totalUnits_cons (e : Event) (es : List Event) : totalUnits (e :: es) = e.units.toNat + totalUnits es := rfl
theorem totalUnits_append (a b : List Event) : totalUnits (a ++ b) = totalUnits a + totalUnits b := by simp [totalUnits]
@[simp] theorem onUnits_nil : onUnits [] = 0 := rfl
theorem onUnits_append (a b : List Event) : onUnits (a ++ b) = onUnits a + onUnits b := by
  simp [onUnits, totalUnits_append]

@[simp] theorem repetitionsFrom_zero (es : List Event) (pre : Bool) (g : BitVec 4) (i : Nat) :
    repetitionsFrom es pre g i 0 = [] := rfl
@[simp] theorem repetitionsFrom_succ (es : List Event) (pre : Bool) (g : BitVec 4) (i n : Nat) :
    repetitionsFrom es pre g i (n + 1) = repetition es pre g i ++ repetitionsFrom es pre g (i + 1) n := rfl

@[simp] theorem emitChar_mode (c : Byte) (s : State) : (emitChar c s).mode = s.mode := rfl

/-- What emitting a list of characters does: it appends their events to `sched` and changes nothing else. -/
theorem foldl_emitChar (cs : List Byte) (s : State) :
    cs.foldl (fun t c => emitChar c t) s = { s with sched := s.sched ++ schedule cs } := by
  induction cs generalizing s with
  | nil => simp
  | cons c cs ih => rw [List.foldl_cons, ih]; simp [emitChar, emitToken, List.append_assoc]

/-- Reading the message sets `sched` to the message's events and changes nothing else (R150, R190). -/
theorem emitMessage_eq (s : State) : emitMessage s = { s with sched := schedule s.message } := by
  unfold emitMessage
  rw [foldl_emitChar]
  simp

end Sys2Proof.Machine
end

