-- ==== Sys2Proof/Laws/Ops.lean ====
section
/-! SUPPORT. One lemma per shared operation that says everything it can do, for the provers to cite instead of unfolding it. -/

namespace Sys2Proof.Machine

open Sys2Proof

/-! ### What depends on which fields -/

/-- `E` is a function of COUNT, PRE_EN, REPGAP and the message's events (R190). -/
theorem events_congr {s t : State} (h1 : s.count = t.count) (h2 : s.sched = t.sched) (h3 : s.preEn = t.preEn)
    (h4 : s.repgap = t.repgap) : s.events = t.events := by
  simp [State.events, h1, h2, h3, h4]

theorem eventAt?_congr {s t : State} (h1 : s.count = t.count) (h2 : s.sched = t.sched) (h3 : s.preEn = t.preEn)
    (h4 : s.repgap = t.repgap) (i : Nat) : s.eventAt? i = t.eventAt? i := by
  simp [State.eventAt?, events_congr h1 h2 h3 h4]

/-- The message is a function of MSG_LEN and the message RAM (R64). -/
theorem message_congr {s t : State} (h1 : s.msgLen = t.msgLen) (h2 : s.msg = t.msg) (h3 : s.epoch = t.epoch) :
    s.message = t.message := by
  simp only [State.message, h1]
  exact List.map_congr_left fun i _ => msgByte_congr h2 h3 i

theorem eventTicks_congr {s t : State} (h : s.unitTicks = t.unitTicks) (e : Event) : eventTicks s e = eventTicks t e := by
  simp [eventTicks, h]

/-- The load of `ticks_left` never overflows its 36 bits (R224). -/
theorem eventTicks_toNat (s : State) (e : Event) : (eventTicks s e).toNat = e.units.toNat * s.unitTicks.toNat := by
  have h1 := e.units.isLt
  have h2 := s.unitTicks.isLt
  have h3 : e.units.toNat * s.unitTicks.toNat ≤ 15 * (2 ^ 32 - 1) := Nat.mul_le_mul (by omega) (by omega)
  simp only [eventTicks, BitVec.toNat_mul, BitVec.toNat_setWidth]
  rw [Nat.mod_eq_of_lt (show e.units.toNat < 2 ^ 36 by omega), Nat.mod_eq_of_lt (show s.unitTicks.toNat < 2 ^ 36 by omega),
    Nat.mod_eq_of_lt (by omega)]

/-! ### Part (a): the machine -/

/-- Everything a boundary can do (R214). -/
theorem boundary_cases (s : State) :
    (∃ e, s.eventAt? (s.k + 1) = some e ∧ s.cancelPend = true ∧ boundary s = finish .cancelled s) ∨
    (∃ e, s.eventAt? (s.k + 1) = some e ∧ s.cancelPend = false ∧
      boundary s = { s with k := s.k + 1, ticksLeft := eventTicks s e }) ∨
    (s.eventAt? (s.k + 1) = none ∧ boundary s = finish .ok s) := by
  unfold boundary
  cases h : s.eventAt? (s.k + 1) with
  | none => exact .inr (.inr ⟨rfl, rfl⟩)
  | some e =>
    cases hc : s.cancelPend
    · exact .inr (.inl ⟨e, rfl, rfl, by simp⟩)
    · exact .inl ⟨e, rfl, rfl, by simp⟩

/-- Everything a RUN cycle can do (R212, R213, R214). -/
theorem runStep_cases (s : State) :
    (s.pins.drvFault = true ∧ runStep s = finish .driverFault s) ∨
    (s.pins.drvFault = false ∧ 1 < s.ticksLeft ∧ runStep s = { s with ticksLeft := s.ticksLeft - 1 }) ∨
    (s.pins.drvFault = false ∧ s.ticksLeft = 1 ∧ runStep s = boundary s) ∨
    (s.pins.drvFault = false ∧ s.ticksLeft = 0 ∧ runStep s = s) := by
  unfold runStep
  cases hf : s.pins.drvFault
  · rw [if_neg Bool.false_ne_true]
    by_cases h1 : 1 < s.ticksLeft
    · exact .inr (.inl ⟨rfl, h1, if_pos h1⟩)
    · rw [if_neg h1]
      by_cases h2 : s.ticksLeft = 1
      · exact .inr (.inr (.inl ⟨rfl, h2, if_pos h2⟩))
      · exact .inr (.inr (.inr ⟨rfl, by bv_omega, if_neg h2⟩))
  · exact .inl ⟨rfl, rfl⟩

theorem machinePart_idle {s : State} (h : s.mode = .idle) : machinePart s = s := by simp [machinePart, h]
theorem machinePart_run {s : State} (h : s.mode = .run) : machinePart s = runStep s := by simp [machinePart, h]
theorem machinePart_ending {s : State} (h : s.mode = .ending) : machinePart s = leaveEnd s := by simp [machinePart, h]

/-- The fields that part (a) never changes. Part (a) writes `mode`, `k`, `ticksLeft`, `done` and `cause` only (R211). -/
structure SameButRun (s t : State) : Prop where
  cancelPend : t.cancelPend = s.cancelPend
  preEn : t.preEn = s.preEn
  diagEn : t.diagEn = s.diagEn
  repgap : t.repgap = s.repgap
  count : t.count = s.count
  msgLen : t.msgLen = s.msgLen
  unitTicks : t.unitTicks = s.unitTicks
  msg : t.msg = s.msg
  pins : t.pins = s.pins
  ports : t.ports = s.ports
  sched : t.sched = s.sched
  pending : t.pending = s.pending
  epoch : t.epoch = s.epoch
  cfg : t.cfg = s.cfg

theorem SameButRun.refl (s : State) : SameButRun s s :=
  ⟨rfl, rfl, rfl, rfl, rfl, rfl, rfl, rfl, rfl, rfl, rfl, rfl, rfl, rfl⟩

theorem boundary_frame (s : State) : SameButRun s (boundary s) := by
  rcases boundary_cases s with ⟨e, _, _, h⟩ | ⟨e, _, _, h⟩ | ⟨_, h⟩ <;> rw [h] <;> constructor <;> rfl

theorem runStep_frame (s : State) : SameButRun s (runStep s) := by
  rcases runStep_cases s with ⟨_, h⟩ | ⟨_, _, h⟩ | ⟨_, _, h⟩ | ⟨_, _, h⟩ <;> rw [h]
  · constructor <;> rfl
  · constructor <;> rfl
  · exact boundary_frame s
  · exact SameButRun.refl s

/-- The frame of part (a). -/
theorem machinePart_frame (s : State) : SameButRun s (machinePart s) := by
  cases h : s.mode
  · rw [machinePart_idle h]; exact SameButRun.refl s
  · rw [machinePart_run h]; exact runStep_frame s
  · rw [machinePart_ending h]; constructor <;> rfl

/-- Part (a) reaches END from RUN only, and then the completion is recorded (R220, R223). -/
theorem machinePart_ending_iff (s : State) : (machinePart s).mode = .ending ↔ machineEnds s = true := by
  cases h : s.mode
  · rw [machinePart_idle h]; simp [machineEnds, h]
  · simp [machineEnds, h]
  · rw [machinePart_ending h]; simp [machineEnds, h]

theorem machinePart_not_idle_of_run {s : State} (h : s.mode = .run) : (machinePart s).mode ≠ .idle := by
  rw [machinePart_run h]
  rcases runStep_cases s with ⟨_, h'⟩ | ⟨_, _, h'⟩ | ⟨_, _, h'⟩ | ⟨_, _, h'⟩ <;> rw [h']
  · simp
  · simp [h]
  · rcases boundary_cases s with ⟨e, _, _, h''⟩ | ⟨e, _, _, h''⟩ | ⟨_, h''⟩ <;> rw [h''] <;> simp [h]
  · simp [h]

/-! ### Part (b): START -/

/-- Everything an accepted START does (R244, R246): the fields it leaves alone are those the updates do not name. -/
theorem acceptStart_cases (s : State) :
    let t : State :=
      { s with done := false, cause := .none, cancelPend := false, k := 0, sched := schedule s.message }
    (∃ e, t.eventAt? 0 = some e ∧ acceptStart s = { t with mode := .run, ticksLeft := eventTicks t e }) ∨
    (t.eventAt? 0 = none ∧ acceptStart s = { t with mode := .ending, done := true, cause := .ok }) := by
  intro t
  have ht : emitMessage { s.clearCompletion with cancelPend := false, k := 0 } = t := by
    rw [emitMessage_eq]; rfl
  unfold acceptStart
  rw [ht]
  cases h : t.eventAt? 0 with
  | none => exact .inr ⟨rfl, by simp only [h]; rfl⟩
  | some e => exact .inl ⟨e, rfl, by simp only [h]⟩

/-- The fields that a START request never changes, accepted or refused (R243 to R246). -/
structure SameButStart (s t : State) : Prop where
  preEn : t.preEn = s.preEn
  diagEn : t.diagEn = s.diagEn
  repgap : t.repgap = s.repgap
  count : t.count = s.count
  msgLen : t.msgLen = s.msgLen
  unitTicks : t.unitTicks = s.unitTicks
  msg : t.msg = s.msg
  pins : t.pins = s.pins
  ports : t.ports = s.ports
  pending : t.pending = s.pending
  epoch : t.epoch = s.epoch
  cfg : t.cfg = s.cfg

theorem acceptStart_frame (s : State) : SameButStart s (acceptStart s) := by
  rcases acceptStart_cases s with ⟨e, _, h⟩ | ⟨_, h⟩ <;> rw [h] <;> constructor <;> rfl

theorem startRequest_frame (s : State) : SameButStart s (startRequest s) := by
  unfold startRequest
  split
  · exact acceptStart_frame s
  · constructor <;> rfl

/-- The four checks of a START (R243, R271). -/
theorem startValid_iff (s : State) :
    startValid s = true ↔
      1 ≤ s.count.toNat ∧ 1 ≤ s.unitTicks.toNat ∧ s.msgLen.toNat ≤ s.cfg.msgMax ∧ 7 ≤ s.repgap.toNat := by
  simp [startValid, and_assoc]

/-! ### Part (b): the writes -/

/-- Everything a CTRL write can do (R242, R247, R248, R249). -/
theorem writeCtrl_cases (d : Word) (s s' : State) :
    (s.mode = .idle ∧ d[0] = true ∧ writeCtrl d s s' = startRequest (setCtrlFields d s')) ∨
    (s.mode = .idle ∧ d[0] = false ∧ writeCtrl d s s' = setCtrlFields d s') ∨
    (s.mode = .run ∧ d[1] = true ∧ writeCtrl d s s' = { s' with cancelPend := true }) ∨
    (s.mode ≠ .idle ∧ (d[1] = false ∨ s.mode = .ending) ∧ writeCtrl d s s' = s') := by
  unfold writeCtrl ctrlStart ctrlCancel
  cases hm : s.mode <;> cases h0 : d[0] <;> cases h1 : d[1] <;> simp

/-- Everything a STATUS write can do (R250). -/
theorem writeStatus_cases (d : Word) (s s' : State) :
    (d[1] = true ∧ machineEnds s = false ∧ writeStatus d s s' = { s' with done := false }) ∨
    ((d[1] = false ∨ machineEnds s = true) ∧ writeStatus d s s' = s') := by
  unfold writeStatus statusDoneW1C
  cases h1 : d[1] <;> cases h2 : machineEnds s <;> simp [State.clearDone]

theorem writeIfIdle_idle {s : State} (h : s.mode = .idle) (set : State → State) (s' : State) :
    writeIfIdle set s s' = set s' := by simp [writeIfIdle, h]

/-- A frozen write while BUSY is ignored (R255). -/
theorem writeIfIdle_busy {s : State} (h : s.mode ≠ .idle) (set : State → State) (s' : State) :
    writeIfIdle set s s' = s' := by simp [writeIfIdle, h]

/-- Everything a message write can do (R254, R255, R256). -/
theorem writeMsg_cases (j : BitVec 10) (d : Word) (s s' : State) :
    (s.mode = .idle ∧ msgWordInRange s.cfg j = true ∧ writeMsg j d s s' = State.setMsgWord j.toNat d s') ∨
    ((s.mode ≠ .idle ∨ msgWordInRange s.cfg j = false) ∧ writeMsg j d s s' = s') := by
  unfold writeMsg writeIfIdle
  cases h1 : msgWordInRange s.cfg j <;> by_cases h2 : s.mode = .idle <;> simp [h2]

@[simp] theorem writeNothing_eq (s s' : State) : writeNothing s s' = s' := rfl

/-! ### The cycles -/

theorem quietCycle_eq (s : State) : quietCycle s = { machinePart s with ports := portsNow s } := rfl
theorem eventCycle_eq (e : Event) (s : State) : eventCycle e s = { machinePart s with ports := portsWith s (some e) } := rfl
theorem readCycle_eq (v : Word) (s : State) :
    readCycle v s = { machinePart s with ports := { portsNow s with hRdata := v } } := rfl
theorem writeCycle_eq (w : State → State → State) (s : State) :
    writeCycle w s = { w s (machinePart s) with ports := portsNow s } := rfl

/-- The cycle of the event on the output is the quiet cycle (R211). -/
theorem eventCycle_current {s : State} {e : Event} (h : s.eventAt? s.k = some e) : eventCycle e s = quietCycle s := by
  simp [eventCycle, quietCycle, portsNow, h]

/-- A message read within range is the message word (R241). -/
theorem readMsg_inRange {s : State} {j : BitVec 10} (h : msgWordInRange s.cfg j = true) :
    readMsg s j = s.msgWord j.toNat := by simp [readMsg, h]

/-! ### The inputs -/

@[simp] theorem sample_nil {s : State} (h : s.pending = []) : s.sample = { s with pins := Pins.quiet } := by
  simp [State.sample, h]
theorem sample_cons {s : State} {p : Pins} {rest : List Pins} (h : s.pending = p :: rest) :
    s.sample = { s with pins := p, pending := rest } := by simp [State.sample, h]

/-- Sampling the inputs changes no state of the keyer. -/
theorem sample_frame (s : State) :
    s.sample.mode = s.mode ∧ s.sample.k = s.k ∧ s.sample.ticksLeft = s.ticksLeft ∧ s.sample.cancelPend = s.cancelPend ∧
    s.sample.preEn = s.preEn ∧ s.sample.diagEn = s.diagEn ∧ s.sample.repgap = s.repgap ∧ s.sample.done = s.done ∧
    s.sample.cause = s.cause ∧ s.sample.count = s.count ∧ s.sample.msgLen = s.msgLen ∧
    s.sample.unitTicks = s.unitTicks ∧ s.sample.msg = s.msg ∧ s.sample.ports = s.ports ∧ s.sample.sched = s.sched ∧
    s.sample.epoch = s.epoch ∧ s.sample.cfg = s.cfg := by
  unfold State.sample
  split <;> simp

end Sys2Proof.Machine
end

