-- ==== Sys2Proof/Laws/PerInstr.lean ====
section
/-! SUPPORT. The per-instruction family `EncodesInRow`: the encoding of a well-formed instruction has the fixed bits of its
row of spec/opcode_table.json, whose match and mask stand here letter for letter. -/

namespace Sys2Proof.Laws

open Sys2Proof

/-- A row of the opcode table: its format, its mask and its match. -/
inductive Row
  | char8 (mask value : Byte)
  | event9 (mask value : BitVec 9)
  | host45 (mask value : BitVec 45)
deriving DecidableEq, Repr

/-- The row of an instruction, as spec/opcode_table.json gives it. -/
def tableRow : Instr → Row
  | .charA => .char8 0xFF 0x41
  | .charB => .char8 0xFF 0x42
  | .charC => .char8 0xFF 0x43
  | .charD => .char8 0xFF 0x44
  | .charE => .char8 0xFF 0x45
  | .charF => .char8 0xFF 0x46
  | .charG => .char8 0xFF 0x47
  | .charH => .char8 0xFF 0x48
  | .charI => .char8 0xFF 0x49
  | .charJ => .char8 0xFF 0x4A
  | .charK => .char8 0xFF 0x4B
  | .charL => .char8 0xFF 0x4C
  | .charM => .char8 0xFF 0x4D
  | .charN => .char8 0xFF 0x4E
  | .charO => .char8 0xFF 0x4F
  | .charP => .char8 0xFF 0x50
  | .charQ => .char8 0xFF 0x51
  | .charR => .char8 0xFF 0x52
  | .charS => .char8 0xFF 0x53
  | .charT => .char8 0xFF 0x54
  | .charU => .char8 0xFF 0x55
  | .charV => .char8 0xFF 0x56
  | .charW => .char8 0xFF 0x57
  | .charX => .char8 0xFF 0x58
  | .charY => .char8 0xFF 0x59
  | .charZ => .char8 0xFF 0x5A
  | .char0 => .char8 0xFF 0x30
  | .char1 => .char8 0xFF 0x31
  | .char2 => .char8 0xFF 0x32
  | .char3 => .char8 0xFF 0x33
  | .char4 => .char8 0xFF 0x34
  | .char5 => .char8 0xFF 0x35
  | .char6 => .char8 0xFF 0x36
  | .char7 => .char8 0xFF 0x37
  | .char8 => .char8 0xFF 0x38
  | .char9 => .char8 0xFF 0x39
  | .charLowerA => .char8 0xFF 0x61
  | .charLowerB => .char8 0xFF 0x62
  | .charLowerC => .char8 0xFF 0x63
  | .charLowerD => .char8 0xFF 0x64
  | .charLowerE => .char8 0xFF 0x65
  | .charLowerF => .char8 0xFF 0x66
  | .charLowerG => .char8 0xFF 0x67
  | .charLowerH => .char8 0xFF 0x68
  | .charLowerI => .char8 0xFF 0x69
  | .charLowerJ => .char8 0xFF 0x6A
  | .charLowerK => .char8 0xFF 0x6B
  | .charLowerL => .char8 0xFF 0x6C
  | .charLowerM => .char8 0xFF 0x6D
  | .charLowerN => .char8 0xFF 0x6E
  | .charLowerO => .char8 0xFF 0x6F
  | .charLowerP => .char8 0xFF 0x70
  | .charLowerQ => .char8 0xFF 0x71
  | .charLowerR => .char8 0xFF 0x72
  | .charLowerS => .char8 0xFF 0x73
  | .charLowerT => .char8 0xFF 0x74
  | .charLowerU => .char8 0xFF 0x75
  | .charLowerV => .char8 0xFF 0x76
  | .charLowerW => .char8 0xFF 0x77
  | .charLowerX => .char8 0xFF 0x78
  | .charLowerY => .char8 0xFF 0x79
  | .charLowerZ => .char8 0xFF 0x7A
  | .charSpace => .char8 0xFF 0x20
  | .charUnknown00_1F _ => .char8 0xE0 0x00
  | .charUnknown21_21 => .char8 0xFF 0x21
  | .charUnknown22_23 _ => .char8 0xFE 0x22
  | .charUnknown24_27 _ => .char8 0xFC 0x24
  | .charUnknown28_2F _ => .char8 0xF8 0x28
  | .charUnknown3A_3B _ => .char8 0xFE 0x3A
  | .charUnknown3C_3F _ => .char8 0xFC 0x3C
  | .charUnknown40_40 => .char8 0xFF 0x40
  | .charUnknown5B_5B => .char8 0xFF 0x5B
  | .charUnknown5C_5F _ => .char8 0xFC 0x5C
  | .charUnknown60_60 => .char8 0xFF 0x60
  | .charUnknown7B_7B => .char8 0xFF 0x7B
  | .charUnknown7C_7F _ => .char8 0xFC 0x7C
  | .charUnknown80_FF _ => .char8 0x80 0x80
  | .evDot => .event9 0x1FF 0x023
  | .evDash => .event9 0x1FF 0x047
  | .evSymgap => .event9 0x1FF 0x062
  | .evLettergap => .event9 0x1FF 0x086
  | .evWordgap => .event9 0x1FF 0x0AE
  | .evPreSettle => .event9 0x1FF 0x0CA
  | .evPreDot => .event9 0x1FF 0x0E3
  | .evPreGap => .event9 0x1FF 0x102
  | .evPreSep => .event9 0x1FF 0x126
  | .evRepgap _ => .event9 0x1E1 0x140
  | .rdRegCtrl => .host45 0x1FFC00000000 0x000000000000
  | .rdRegStatus => .host45 0x1FFC00000000 0x000400000000
  | .rdRegCount => .host45 0x1FFC00000000 0x000800000000
  | .rdRegMsgLen => .host45 0x1FFC00000000 0x000C00000000
  | .rdRegUnitTicks => .host45 0x1FFC00000000 0x001000000000
  | .rdMsg _ => .host45 0x1F0000000000 0x010000000000
  | .rdUnmapped _ => .host45 0x100000000000 0x000000000000
  | .wrCtrl _ => .host45 0x1FFC00000000 0x100000000000
  | .start _ => .host45 0x1FFC00000001 0x100000000001
  | .cancel _ => .host45 0x1FFC00000002 0x100000000002
  | .wrStatus _ => .host45 0x1FFC00000000 0x100400000000
  | .wrCount _ => .host45 0x1FFC00000000 0x100800000000
  | .wrMsgLen _ => .host45 0x1FFC00000000 0x100C00000000
  | .wrUnitTicks _ => .host45 0x1FFC00000000 0x101000000000
  | .wrMsg _ _ => .host45 0x1F0000000000 0x110000000000
  | .wrUnmapped _ _ => .host45 0x100000000000 0x100000000000

/-- The frame has the row's format and, under the row's mask, the row's match. -/
def inRow : Frame → Row → Prop
  | .char8 c, .char8 mask value => c &&& mask = value
  | .event9 w, .event9 mask value => w &&& mask = value
  | .host45 w, .host45 mask value => w &&& mask = value
  | _, _ => False

/-- A well-formed instruction of the table's build encodes into its row. -/
def EncodesInRow.Statement (i : Instr) : Prop := i.wellFormed Config.table = true → inRow (encode i) (tableRow i)

/-- A packed access under a packed mask. -/
theorem packAccess_masked {w : Bool} {o : BitVec 10} {d : Word} {mask value : BitVec 45} (w' : Bool) (o' : BitVec 10)
    (d' : Word) (hm : mask = packAccess w' o' d') (hv : value = packAccess (w && w') (o &&& o') (d &&& d')) :
    packAccess w o d &&& mask = value := by
  rw [hm, hv, packAccess_and]

theorem bit0_of_set {d : Word} (h : d[0] = true) : d &&& 1 = 1 := by
  apply BitVec.eq_of_getLsbD_eq
  intro i hi
  simp only [BitVec.getLsbD_and]
  rcases i with _ | i
  · simpa [BitVec.getLsbD_eq_getElem] using h
  · simp [BitVec.getLsbD_one]

theorem bit1_of_set {d : Word} (h : d[1] = true) : d &&& 2 = 2 := by
  apply BitVec.eq_of_getLsbD_eq
  intro i hi
  have h2 : (2 : Word) = BitVec.twoPow 32 1 := by decide
  rw [h2, BitVec.getLsbD_and, BitVec.getLsbD_twoPow]
  by_cases hi1 : i = 1
  · subst hi1; simpa [BitVec.getLsbD_eq_getElem] using h
  · simp [show ¬ (1 = i) from fun h => hi1 h.symm]

theorem msgWordNumber_masked {j : BitVec 10} (h : msgWordInRange Config.table j = true) : (64 + j) &&& 0x3C0 = 0x40 := by
  have hj : j.toNat < 64 := by
    rw [msgWordInRange, Bool.and_eq_true] at h
    have h4 : 4 * j.toNat < 256 := of_decide_eq_true h.1
    omega
  have h6 : j = (j.setWidth 6).setWidth 10 := by
    apply BitVec.eq_of_toNat_eq
    simp only [BitVec.toNat_setWidth]
    omega
  rw [h6]
  generalize j.setWidth 6 = x
  revert x
  decide

theorem EncodesInRow.charA : EncodesInRow.Statement .charA := fun _ => rfl
theorem EncodesInRow.charB : EncodesInRow.Statement .charB := fun _ => rfl
theorem EncodesInRow.charC : EncodesInRow.Statement .charC := fun _ => rfl
theorem EncodesInRow.charD : EncodesInRow.Statement .charD := fun _ => rfl
theorem EncodesInRow.charE : EncodesInRow.Statement .charE := fun _ => rfl
theorem EncodesInRow.charF : EncodesInRow.Statement .charF := fun _ => rfl
theorem EncodesInRow.charG : EncodesInRow.Statement .charG := fun _ => rfl
theorem EncodesInRow.charH : EncodesInRow.Statement .charH := fun _ => rfl
theorem EncodesInRow.charI : EncodesInRow.Statement .charI := fun _ => rfl
theorem EncodesInRow.charJ : EncodesInRow.Statement .charJ := fun _ => rfl
theorem EncodesInRow.charK : EncodesInRow.Statement .charK := fun _ => rfl
theorem EncodesInRow.charL : EncodesInRow.Statement .charL := fun _ => rfl
theorem EncodesInRow.charM : EncodesInRow.Statement .charM := fun _ => rfl
theorem EncodesInRow.charN : EncodesInRow.Statement .charN := fun _ => rfl
theorem EncodesInRow.charO : EncodesInRow.Statement .charO := fun _ => rfl
theorem EncodesInRow.charP : EncodesInRow.Statement .charP := fun _ => rfl
theorem EncodesInRow.charQ : EncodesInRow.Statement .charQ := fun _ => rfl
theorem EncodesInRow.charR : EncodesInRow.Statement .charR := fun _ => rfl
theorem EncodesInRow.charS : EncodesInRow.Statement .charS := fun _ => rfl
theorem EncodesInRow.charT : EncodesInRow.Statement .charT := fun _ => rfl
theorem EncodesInRow.charU : EncodesInRow.Statement .charU := fun _ => rfl
theorem EncodesInRow.charV : EncodesInRow.Statement .charV := fun _ => rfl
theorem EncodesInRow.charW : EncodesInRow.Statement .charW := fun _ => rfl
theorem EncodesInRow.charX : EncodesInRow.Statement .charX := fun _ => rfl
theorem EncodesInRow.charY : EncodesInRow.Statement .charY := fun _ => rfl
theorem EncodesInRow.charZ : EncodesInRow.Statement .charZ := fun _ => rfl
theorem EncodesInRow.char0 : EncodesInRow.Statement .char0 := fun _ => rfl
theorem EncodesInRow.char1 : EncodesInRow.Statement .char1 := fun _ => rfl
theorem EncodesInRow.char2 : EncodesInRow.Statement .char2 := fun _ => rfl
theorem EncodesInRow.char3 : EncodesInRow.Statement .char3 := fun _ => rfl
theorem EncodesInRow.char4 : EncodesInRow.Statement .char4 := fun _ => rfl
theorem EncodesInRow.char5 : EncodesInRow.Statement .char5 := fun _ => rfl
theorem EncodesInRow.char6 : EncodesInRow.Statement .char6 := fun _ => rfl
theorem EncodesInRow.char7 : EncodesInRow.Statement .char7 := fun _ => rfl
theorem EncodesInRow.char8 : EncodesInRow.Statement .char8 := fun _ => rfl
theorem EncodesInRow.char9 : EncodesInRow.Statement .char9 := fun _ => rfl
theorem EncodesInRow.charLowerA : EncodesInRow.Statement .charLowerA := fun _ => rfl
theorem EncodesInRow.charLowerB : EncodesInRow.Statement .charLowerB := fun _ => rfl
theorem EncodesInRow.charLowerC : EncodesInRow.Statement .charLowerC := fun _ => rfl
theorem EncodesInRow.charLowerD : EncodesInRow.Statement .charLowerD := fun _ => rfl
theorem EncodesInRow.charLowerE : EncodesInRow.Statement .charLowerE := fun _ => rfl
theorem EncodesInRow.charLowerF : EncodesInRow.Statement .charLowerF := fun _ => rfl
theorem EncodesInRow.charLowerG : EncodesInRow.Statement .charLowerG := fun _ => rfl
theorem EncodesInRow.charLowerH : EncodesInRow.Statement .charLowerH := fun _ => rfl
theorem EncodesInRow.charLowerI : EncodesInRow.Statement .charLowerI := fun _ => rfl
theorem EncodesInRow.charLowerJ : EncodesInRow.Statement .charLowerJ := fun _ => rfl
theorem EncodesInRow.charLowerK : EncodesInRow.Statement .charLowerK := fun _ => rfl
theorem EncodesInRow.charLowerL : EncodesInRow.Statement .charLowerL := fun _ => rfl
theorem EncodesInRow.charLowerM : EncodesInRow.Statement .charLowerM := fun _ => rfl
theorem EncodesInRow.charLowerN : EncodesInRow.Statement .charLowerN := fun _ => rfl
theorem EncodesInRow.charLowerO : EncodesInRow.Statement .charLowerO := fun _ => rfl
theorem EncodesInRow.charLowerP : EncodesInRow.Statement .charLowerP := fun _ => rfl
theorem EncodesInRow.charLowerQ : EncodesInRow.Statement .charLowerQ := fun _ => rfl
theorem EncodesInRow.charLowerR : EncodesInRow.Statement .charLowerR := fun _ => rfl
theorem EncodesInRow.charLowerS : EncodesInRow.Statement .charLowerS := fun _ => rfl
theorem EncodesInRow.charLowerT : EncodesInRow.Statement .charLowerT := fun _ => rfl
theorem EncodesInRow.charLowerU : EncodesInRow.Statement .charLowerU := fun _ => rfl
theorem EncodesInRow.charLowerV : EncodesInRow.Statement .charLowerV := fun _ => rfl
theorem EncodesInRow.charLowerW : EncodesInRow.Statement .charLowerW := fun _ => rfl
theorem EncodesInRow.charLowerX : EncodesInRow.Statement .charLowerX := fun _ => rfl
theorem EncodesInRow.charLowerY : EncodesInRow.Statement .charLowerY := fun _ => rfl
theorem EncodesInRow.charLowerZ : EncodesInRow.Statement .charLowerZ := fun _ => rfl
theorem EncodesInRow.charSpace : EncodesInRow.Statement .charSpace := fun _ => rfl
theorem EncodesInRow.charUnknown00_1F (low : BitVec 5) : EncodesInRow.Statement (.charUnknown00_1F low) := by
  intro _; show unknownCode 0x00 low &&& 0xE0 = 0x00; revert low; decide
theorem EncodesInRow.charUnknown21_21 : EncodesInRow.Statement .charUnknown21_21 := fun _ => rfl
theorem EncodesInRow.charUnknown22_23 (low : BitVec 1) : EncodesInRow.Statement (.charUnknown22_23 low) := by
  intro _; show unknownCode 0x22 low &&& 0xFE = 0x22; revert low; decide
theorem EncodesInRow.charUnknown24_27 (low : BitVec 2) : EncodesInRow.Statement (.charUnknown24_27 low) := by
  intro _; show unknownCode 0x24 low &&& 0xFC = 0x24; revert low; decide
theorem EncodesInRow.charUnknown28_2F (low : BitVec 3) : EncodesInRow.Statement (.charUnknown28_2F low) := by
  intro _; show unknownCode 0x28 low &&& 0xF8 = 0x28; revert low; decide
theorem EncodesInRow.charUnknown3A_3B (low : BitVec 1) : EncodesInRow.Statement (.charUnknown3A_3B low) := by
  intro _; show unknownCode 0x3A low &&& 0xFE = 0x3A; revert low; decide
theorem EncodesInRow.charUnknown3C_3F (low : BitVec 2) : EncodesInRow.Statement (.charUnknown3C_3F low) := by
  intro _; show unknownCode 0x3C low &&& 0xFC = 0x3C; revert low; decide
theorem EncodesInRow.charUnknown40_40 : EncodesInRow.Statement .charUnknown40_40 := fun _ => rfl
theorem EncodesInRow.charUnknown5B_5B : EncodesInRow.Statement .charUnknown5B_5B := fun _ => rfl
theorem EncodesInRow.charUnknown5C_5F (low : BitVec 2) : EncodesInRow.Statement (.charUnknown5C_5F low) := by
  intro _; show unknownCode 0x5C low &&& 0xFC = 0x5C; revert low; decide
theorem EncodesInRow.charUnknown60_60 : EncodesInRow.Statement .charUnknown60_60 := fun _ => rfl
theorem EncodesInRow.charUnknown7B_7B : EncodesInRow.Statement .charUnknown7B_7B := fun _ => rfl
theorem EncodesInRow.charUnknown7C_7F (low : BitVec 2) : EncodesInRow.Statement (.charUnknown7C_7F low) := by
  intro _; show unknownCode 0x7C low &&& 0xFC = 0x7C; revert low; decide
theorem EncodesInRow.charUnknown80_FF (low : BitVec 7) : EncodesInRow.Statement (.charUnknown80_FF low) := by
  intro _; show unknownCode 0x80 low &&& 0x80 = 0x80; revert low; decide
theorem EncodesInRow.evDot : EncodesInRow.Statement .evDot := fun _ => rfl
theorem EncodesInRow.evDash : EncodesInRow.Statement .evDash := fun _ => rfl
theorem EncodesInRow.evSymgap : EncodesInRow.Statement .evSymgap := fun _ => rfl
theorem EncodesInRow.evLettergap : EncodesInRow.Statement .evLettergap := fun _ => rfl
theorem EncodesInRow.evWordgap : EncodesInRow.Statement .evWordgap := fun _ => rfl
theorem EncodesInRow.evPreSettle : EncodesInRow.Statement .evPreSettle := fun _ => rfl
theorem EncodesInRow.evPreDot : EncodesInRow.Statement .evPreDot := fun _ => rfl
theorem EncodesInRow.evPreGap : EncodesInRow.Statement .evPreGap := fun _ => rfl
theorem EncodesInRow.evPreSep : EncodesInRow.Statement .evPreSep := fun _ => rfl
theorem EncodesInRow.evRepgap (g : BitVec 4) : EncodesInRow.Statement (.evRepgap g) := by
  intro _; show (10#4 ++ g ++ 0#1) &&& 0x1E1 = 0x140; revert g; decide
theorem EncodesInRow.rdRegCtrl : EncodesInRow.Statement .rdRegCtrl := fun _ =>
  packAccess_masked true 0x3FF 0 rfl rfl
theorem EncodesInRow.rdRegStatus : EncodesInRow.Statement .rdRegStatus := fun _ =>
  packAccess_masked true 0x3FF 0 rfl rfl
theorem EncodesInRow.rdRegCount : EncodesInRow.Statement .rdRegCount := fun _ =>
  packAccess_masked true 0x3FF 0 rfl rfl
theorem EncodesInRow.rdRegMsgLen : EncodesInRow.Statement .rdRegMsgLen := fun _ =>
  packAccess_masked true 0x3FF 0 rfl rfl
theorem EncodesInRow.rdRegUnitTicks : EncodesInRow.Statement .rdRegUnitTicks := fun _ =>
  packAccess_masked true 0x3FF 0 rfl rfl
theorem EncodesInRow.rdMsg (j : BitVec 10) : EncodesInRow.Statement (.rdMsg j) := fun h =>
  packAccess_masked true 0x3C0 0 rfl (by rw [msgWordNumber_masked h]; rfl)
theorem EncodesInRow.rdUnmapped (o : BitVec 10) : EncodesInRow.Statement (.rdUnmapped o) := fun _ =>
  packAccess_masked true 0 0 rfl (by rw [show o &&& 0 = 0 from BitVec.and_zero]; rfl)
theorem EncodesInRow.wrCtrl (d : Word) : EncodesInRow.Statement (.wrCtrl d) := fun _ =>
  packAccess_masked true 0x3FF 0 rfl (by rw [show d &&& 0 = 0 from BitVec.and_zero]; rfl)
theorem EncodesInRow.start (d : Word) : EncodesInRow.Statement (.start d) := fun h =>
  packAccess_masked true 0x3FF 1 rfl (by rw [bit0_of_set h]; rfl)
theorem EncodesInRow.cancel (d : Word) : EncodesInRow.Statement (.cancel d) := fun h =>
  packAccess_masked true 0x3FF 2 rfl (by
    simp only [Instr.wellFormed, Bool.and_eq_true] at h
    rw [bit1_of_set h.2]; rfl)
theorem EncodesInRow.wrStatus (d : Word) : EncodesInRow.Statement (.wrStatus d) := fun _ =>
  packAccess_masked true 0x3FF 0 rfl (by rw [show d &&& 0 = 0 from BitVec.and_zero]; rfl)
theorem EncodesInRow.wrCount (d : Word) : EncodesInRow.Statement (.wrCount d) := fun _ =>
  packAccess_masked true 0x3FF 0 rfl (by rw [show d &&& 0 = 0 from BitVec.and_zero]; rfl)
theorem EncodesInRow.wrMsgLen (d : Word) : EncodesInRow.Statement (.wrMsgLen d) := fun _ =>
  packAccess_masked true 0x3FF 0 rfl (by rw [show d &&& 0 = 0 from BitVec.and_zero]; rfl)
theorem EncodesInRow.wrUnitTicks (d : Word) : EncodesInRow.Statement (.wrUnitTicks d) := fun _ =>
  packAccess_masked true 0x3FF 0 rfl (by rw [show d &&& 0 = 0 from BitVec.and_zero]; rfl)
theorem EncodesInRow.wrMsg (j : BitVec 10) (d : Word) : EncodesInRow.Statement (.wrMsg j d) := fun h =>
  packAccess_masked true 0x3C0 0 rfl (by rw [msgWordNumber_masked h, show d &&& 0 = 0 from BitVec.and_zero]; rfl)
theorem EncodesInRow.wrUnmapped (o : BitVec 10) (d : Word) : EncodesInRow.Statement (.wrUnmapped o d) := fun _ =>
  packAccess_masked true 0 0 rfl (by rw [show o &&& 0 = 0 from BitVec.and_zero, show d &&& 0 = 0 from BitVec.and_zero]; rfl)

end Sys2Proof.Laws
end

