-- ==== Sys2Proof/Laws/Safety.lean ====
section
/-! SUPPORT. The small lemmas of the terms that the statements use: agreement but for the tap, and a cycle of a host line. -/

namespace Sys2Proof.Machine

open Sys2Proof

/-! ### Agreement but for the tap (R258) -/

theorem State.agreesButForTap_refl (s : State) : s.AgreesButForTap s := rfl

/-- Agreement says that one state is the other with another DIAG_EN, other tap outputs and another read word. -/
theorem State.agreesButForTap_iff (s t : State) :
    s.AgreesButForTap t ↔ ∃ (b : Bool) (w : Word) (v l : Bool) (u k : BitVec 4),
      t = { s with
        diagEn := b
        ports := { s.ports with hRdata := w, diagValid := v, diagLevel := l, diagUnits := u, diagKind := k } } :=
  ⟨fun h => ⟨_, _, _, _, _, _, h⟩, fun ⟨_, _, _, _, _, _, h⟩ => by subst h; rfl⟩

theorem State.AgreesButForTap.symm {s t : State} (h : s.AgreesButForTap t) : t.AgreesButForTap s := by
  obtain ⟨_, _, _, _, _, _, rfl⟩ := (State.agreesButForTap_iff s t).1 h
  rfl

theorem State.AgreesButForTap.trans {s t u : State} (h : s.AgreesButForTap t) (h' : t.AgreesButForTap u) :
    s.AgreesButForTap u := by
  obtain ⟨_, _, _, _, _, _, rfl⟩ := (State.agreesButForTap_iff s t).1 h
  obtain ⟨_, _, _, _, _, _, rfl⟩ := (State.agreesButForTap_iff _ u).1 h'
  rfl

/-! ### The cycle of a host line (R92) -/

/-- A line's cycle samples the line's inputs and leaves the waiting ones. -/
theorem cycleWith_sample (p : Pins) (s : State) :
    State.sample { s with pending := p :: s.pending } = { s with pins := p } :=
  sample_cons rfl

@[simp] theorem writePins_rst (off : BitVec 12) (d : Word) : (writePins off d).rst = false := rfl
@[simp] theorem writePins_drvFault (off : BitVec 12) (d : Word) : (writePins off d).drvFault = false := rfl
@[simp] theorem readPins_rst (off : BitVec 12) : (readPins off).rst = false := rfl
@[simp] theorem readPins_drvFault (off : BitVec 12) : (readPins off).drvFault = false := rfl

end Sys2Proof.Machine
end

