-- ==== Sys2Proof/Tests/Slice0.lean ====
section
/-! SUPPORT. Small tests: ill-formed terms, words decoded, single steps against the vectors of 95_test_vectors.md, and for
each statement of Certificates/Slice0/Obligations.lean that has hypotheses a state and operands that meet them. Every
expected value comes from the spec. -/

namespace Sys2Proof.Tests

open Sys2Proof Sys2Proof.Machine

/-! ### WellFormed refuses an ill-formed term of each check -/

/-- A build with more message bytes than the window has room for, to reach the window's own check. -/
def oversizedBuild : Config := { msgMax := 4096, fClk := 1 }

theorem test_wf_repgap : (Instr.evRepgap 6).wellFormed Config.table = false := by decide
theorem test_wf_rdMsg : (Instr.rdMsg 64).wellFormed Config.table = false := by decide
theorem test_wf_rdMsg_window : (Instr.rdMsg 960).wellFormed oversizedBuild = false := by decide
theorem test_wf_wrMsg : (Instr.wrMsg 64 0).wellFormed Config.table = false := by decide
theorem test_wf_rdUnmapped : (Instr.rdUnmapped 4).wellFormed Config.table = false := by decide
theorem test_wf_rdUnmapped_msg : (Instr.rdUnmapped 127).wellFormed Config.table = false := by decide
theorem test_wf_wrUnmapped : (Instr.wrUnmapped 64 0).wellFormed Config.table = false := by decide
theorem test_wf_wrCtrl : (Instr.wrCtrl 1).wellFormed Config.table = false := by decide
theorem test_wf_wrCtrl_cancel : (Instr.wrCtrl 2).wellFormed Config.table = false := by decide
theorem test_wf_start : (Instr.start 0x700).wellFormed Config.table = false := by decide
theorem test_wf_cancel : (Instr.cancel 0x700).wellFormed Config.table = false := by decide
theorem test_wf_cancel_start : (Instr.cancel 3).wellFormed Config.table = false := by decide

/-! ### Decoding: every constructor, from words written out of the spec's encodings -/

/-- The codes 'A' to 'Z', in order (R81). -/
theorem test_decode_uppercase : ∀ r ∈ ([(0x41, .charA), (0x42, .charB), (0x43, .charC), (0x44, .charD), (0x45, .charE), (0x46, .charF),
     (0x47, .charG), (0x48, .charH), (0x49, .charI), (0x4A, .charJ), (0x4B, .charK), (0x4C, .charL),
     (0x4D, .charM), (0x4E, .charN), (0x4F, .charO), (0x50, .charP), (0x51, .charQ), (0x52, .charR),
     (0x53, .charS), (0x54, .charT), (0x55, .charU), (0x56, .charV), (0x57, .charW), (0x58, .charX),
     (0x59, .charY), (0x5A, .charZ)] : List (Nat × Instr)),
    decodeTableWord 8 r.1 = some r.2 := by decide

/-- The codes '0' to '9', in order (R81). -/
theorem test_decode_digits : ∀ r ∈ ([(0x30, .char0), (0x31, .char1), (0x32, .char2), (0x33, .char3), (0x34, .char4), (0x35, .char5),
     (0x36, .char6), (0x37, .char7), (0x38, .char8), (0x39, .char9)] : List (Nat × Instr)),
    decodeTableWord 8 r.1 = some r.2 := by decide

/-- The codes 'a' to 'z', in order (R81). -/
theorem test_decode_lowercase : ∀ r ∈ ([(0x61, .charLowerA), (0x62, .charLowerB), (0x63, .charLowerC), (0x64, .charLowerD),
     (0x65, .charLowerE), (0x66, .charLowerF), (0x67, .charLowerG), (0x68, .charLowerH),
     (0x69, .charLowerI), (0x6A, .charLowerJ), (0x6B, .charLowerK), (0x6C, .charLowerL),
     (0x6D, .charLowerM), (0x6E, .charLowerN), (0x6F, .charLowerO), (0x70, .charLowerP),
     (0x71, .charLowerQ), (0x72, .charLowerR), (0x73, .charLowerS), (0x74, .charLowerT),
     (0x75, .charLowerU), (0x76, .charLowerV), (0x77, .charLowerW), (0x78, .charLowerX),
     (0x79, .charLowerY), (0x7A, .charLowerZ)] : List (Nat × Instr)),
    decodeTableWord 8 r.1 = some r.2 := by decide

/-- The space and the codes outside the table, one or more of each block (R81, R103). -/
theorem test_decode_space_and_unknown : ∀ r ∈ ([(0x20, .charSpace), (0x00, .charUnknown00_1F 0), (0x1F, .charUnknown00_1F 31),
     (0x21, .charUnknown21_21), (0x22, .charUnknown22_23 0), (0x23, .charUnknown22_23 1),
     (0x26, .charUnknown24_27 2), (0x2D, .charUnknown28_2F 5), (0x3B, .charUnknown3A_3B 1),
     (0x3F, .charUnknown3C_3F 3), (0x40, .charUnknown40_40), (0x5B, .charUnknown5B_5B),
     (0x5E, .charUnknown5C_5F 2), (0x60, .charUnknown60_60), (0x7B, .charUnknown7B_7B),
     (0x7D, .charUnknown7C_7F 1), (0x80, .charUnknown80_FF 0), (0xE9, .charUnknown80_FF 0x69),
     (0xFF, .charUnknown80_FF 0x7F)] : List (Nat × Instr)),
    decodeTableWord 8 r.1 = some r.2 := by decide

/-- The packed event records that R86 prints. -/
theorem test_decode_events : ∀ r ∈ ([(0x023, .evDot), (0x047, .evDash), (0x062, .evSymgap), (0x086, .evLettergap), (0x0AE, .evWordgap),
     (0x0CA, .evPreSettle), (0x0E3, .evPreDot), (0x102, .evPreGap), (0x126, .evPreSep),
     (0x14E, .evRepgap 7), (0x154, .evRepgap 10), (0x15E, .evRepgap 15)] : List (Nat × Instr)),
    decodeTableWord 16 r.1 = some r.2 := by decide

/-- Reads: bit 44 is 0, bits 43:32 are the offset and bits 33:32 are ignored (R87, R88). -/
theorem test_decode_reads : ∀ r ∈ ([(0x000000000000, .rdRegCtrl), (0x000400000000, .rdRegStatus), (0x000800000000, .rdRegCount),
     (0x000C00000000, .rdRegMsgLen), (0x001000000000, .rdRegUnitTicks), (0x010000000000, .rdMsg 0),
     (0x010100000000, .rdMsg 0), (0x01FC00000000, .rdMsg 63), (0x001400000000, .rdUnmapped 5),
     (0x00FC00000000, .rdUnmapped 0x3F), (0x020000000000, .rdUnmapped 0x80),
     (0x0FFF00000000, .rdUnmapped 0x3FF)] : List (Nat × Instr)),
    decodeTableWord 48 r.1 = some r.2 := by decide

/-- Writes: bit 44 is 1, with the encodings of the programs P1 to P6 of 95_test_vectors.md. -/
theorem test_decode_writes : ∀ r ∈ ([(0x100000000704, .wrCtrl 0x704), (0x100000000A0D, .start 0xA0D), (0x100000000703, .start 0x703),
     (0x100000000002, .cancel 2), (0x100400000002, .wrStatus 2), (0x100800000003, .wrCount 3),
     (0x100C00000003, .wrMsgLen 3), (0x1010000186A0, .wrUnitTicks 0x186A0),
     (0x110000534F53, .wrMsg 0 0x534F53), (0x11FC00000001, .wrMsg 63 1),
     (0x1014FFFFFFFF, .wrUnmapped 5 0xFFFFFFFF), (0x120000000000, .wrUnmapped 0x80 0)] : List (Nat × Instr)),
    decodeTableWord 48 r.1 = some r.2 := by decide

/-- Words that are no instruction: a reserved KIND (R86), a DOT with LEVEL 0, a REPGAP with LEVEL 1, and words with a bit
above their frame (R91). -/
theorem test_decode_refuses : ∀ r ∈ ([(16, 0x000), (16, 0x160), (16, 0x1FF), (16, 0x022), (16, 0x14F), (16, 0x200), (8, 0x100),
    (48, 0x200000000000)] : List (Nat × Nat)), decodeTableWord r.1 r.2 = none := by decide

/-! ### Small states -/

/-- The state of an outcome that is a next state. -/
def after : Host.Outcome State Fault Refusal → Option State
  | .next s => some s
  | .fault _ => none
  | .refused _ => none

/-- IDLE with the message "E", COUNT 1 and UNIT_TICKS 2: program P1 just before its START. -/
def idleE : State :=
  { State.reset with msg := [(0, 0x45), (1, 0), (2, 0), (3, 0)], msgLen := 1, count := 1, unitTicks := 2 }

/-- Program P1 in cycle 5: the first cycle of the dot. -/
def runE : State := { idleE with mode := .run, sched := [dotEvent, lettergapEvent], ticksLeft := 2 }

/-- Program P1 in cycle 6: the last cycle of the dot. -/
def runEBoundary : State := { runE with ticksLeft := 1 }

/-- Program P1 in cycle 12: the last cycle of the run. -/
def runELast : State := { runE with k := 1, ticksLeft := 1 }

/-- Program P1 in cycle 13: END. -/
def endE : State := { runE with mode := .ending, k := 1, ticksLeft := 1, done := true, cause := .ok }

/-- An empty message, COUNT 1 and UNIT_TICKS 1: program P7 just before its START. -/
def idleEmpty : State := { State.reset with count := 1, unitTicks := 1 }

/-- A cycle with the driver failed. -/
def faultPins : Pins := { Pins.quiet with drvFault := true }

/-- A cycle with `rst` = 1 and everything else that could happen in it (V-R3). -/
def resetPins : Pins := { rst := true, hValid := true, hWrite := true, hAddr := 0x008, hWdata := 5, drvFault := true }

/-- A cycle with a write of CTRL. -/
def ctrlPins (d : Word) : Pins := { Pins.quiet with hValid := true, hWrite := true, hWdata := d }

/-! ### Single steps, against 95_test_vectors.md -/

/-- V-S3: the events of "A". -/
theorem test_charA : (after (exec .charA State.reset)).map (fun t => t.sched.map Event.pack) =
    some [0x023, 0x062, 0x047, 0x086] := by decide
/-- V-S12: "i" folds to "I". -/
theorem test_charLowerI : (after (exec .charLowerI State.reset)).map (fun t => t.sched.map Event.pack) =
    some [0x023, 0x062, 0x023, 0x086] := by decide
/-- V-S10: "0". -/
theorem test_char0 : (after (exec .char0 State.reset)).map (fun t => t.sched.map Event.pack) =
    some [0x047, 0x062, 0x047, 0x062, 0x047, 0x062, 0x047, 0x062, 0x047, 0x086] := by decide
/-- V-S8: the space. -/
theorem test_charSpace : (after (exec .charSpace State.reset)).map (fun t => t.sched.map Event.pack) = some [0x0AE] := by decide
/-- V-S15: "?" emits nothing. -/
theorem test_charUnknown : after (exec (.charUnknown3C_3F 3) runE) = some runE := by decide
/-- V-S18: "PARIS" is 28 events and 46 units, 22 of them ON. -/
theorem test_schedule_paris : (schedule [0x50, 0x41, 0x52, 0x49, 0x53]).length = 28 ∧
    totalUnits (schedule [0x50, 0x41, 0x52, 0x49, 0x53]) = 46 ∧
    onUnits (schedule [0x50, 0x41, 0x52, 0x49, 0x53]) = 22 := by decide
/-- V-T2: the packed events of two copies of "T" with a gap of 10. -/
theorem test_transmit_t : (transmit 2 [0x54] false 10).map Event.pack = [0x047, 0x086, 0x154, 0x047, 0x086] := by decide
/-- V-T3: the preamble comes before the first copy only. -/
theorem test_transmit_preamble_once : (transmit 2 [0x45] true 7).map Event.pack =
    [0x0CA, 0x0E3, 0x102, 0x0E3, 0x102, 0x0E3, 0x102, 0x126, 0x023, 0x086, 0x14E, 0x023, 0x086] := by decide
/-- P1, cycle 5: the dot drives `led` and counts down. -/
theorem test_evDot_first : (after (exec .evDot runE)).map (fun t => (t.mode, t.k, t.ticksLeft, t.ports.led, t.ports.ledOwn)) =
    some (.run, 0, 1, true, true) := by decide
/-- P1, cycle 6: the boundary loads LETTERGAP with 3 * 2 cycles. -/
theorem test_evDot_boundary : (after (exec .evDot runEBoundary)).map (fun t => (t.mode, t.k, t.ticksLeft, t.ports.led)) =
    some (.run, 1, 6, true) := by decide
/-- P1, cycle 12: the last event ends the run OK. -/
theorem test_evLettergap_last : (after (exec .evLettergap runELast)).map (fun t => (t.mode, t.done, t.cause, t.ports.led)) =
    some (.ending, true, .ok, false) := by decide
/-- V-G1: the tap shows the record 0x023 in the first cycle of the dot. -/
theorem test_tap : (after (exec .evDot { runE with diagEn := true })).map
    (fun t => (t.ports.diagValid, t.ports.diagLevel, t.ports.diagUnits, t.ports.diagKind)) = some (true, true, 1, 1) := by decide
/-- V-F1: a driver failure in the first cycle of the run ends it. -/
theorem test_driver_fault : (after (exec .evDot { runE with pins := faultPins })).map (fun t => (t.mode, t.cause)) =
    some (.ending, .driverFault) := by decide
/-- V-H2: CTRL reads 0x700 after reset. -/
theorem test_rdRegCtrl : (after (exec .rdRegCtrl State.reset)).map (fun t => t.ports.hRdata) = some 0x700 := by decide
/-- P1, cycle 13: STATUS reads 0x13 in END. -/
theorem test_rdRegStatus_end : (after (exec .rdRegStatus endE)).map (fun t => (t.ports.hRdata, t.ports.release, t.mode)) =
    some (0x13, true, .idle) := by decide
/-- P1: the end state's COUNT. -/
theorem test_rdRegCount : (after (exec .rdRegCount runE)).map (fun t => (t.ports.hRdata, t.ticksLeft)) = some (1, 1) := by decide
/-- P1: the end state's MSG_LEN. -/
theorem test_rdRegMsgLen : (after (exec .rdRegMsgLen idleE)).map (fun t => t.ports.hRdata) = some 1 := by decide
/-- P1: the end state's UNIT_TICKS. -/
theorem test_rdRegUnitTicks : (after (exec .rdRegUnitTicks idleE)).map (fun t => t.ports.hRdata) = some 2 := by decide
/-- P1: the end state's message word 0, also read while BUSY. -/
theorem test_rdMsg_busy : (after (exec (.rdMsg 0) runE)).map (fun t => t.ports.hRdata) = some 0x45 := by decide
/-- V-H12: an unmapped offset reads 0. -/
theorem test_rdUnmapped : (after (exec (.rdUnmapped 5) idleE)).map (fun t => t.ports.hRdata) = some 0 := by decide
/-- V-H14: PRE_EN and REPGAP are set, and nothing starts. -/
theorem test_wrCtrl : (after (exec (.wrCtrl 0x704) idleE)).map (fun t => (t.mode, t.preEn, t.repgap, t.done)) =
    some (.idle, true, 7, false) := by decide
/-- V-H1: ignored while RUN. -/
theorem test_wrCtrl_busy : (after (exec (.wrCtrl 0xD04) runE)).map (fun t => (t.mode, t.preEn, t.repgap)) =
    some (.run, false, 7) := by decide
/-- P1, cycle 4: the START. -/
theorem test_start : (after (exec (.start 0x701) idleE)).map
    (fun t => (t.mode, t.k, t.ticksLeft, t.sched.map Event.pack, t.ports.led)) = some (.run, 0, 2, [0x023, 0x086], false) := by decide
/-- P4: COUNT is 0, so the START is refused. -/
theorem test_start_refused : (after (exec (.start 0x701) State.reset)).map (fun t => (t.mode, statusWord t)) =
    some (.idle, 0x22) := by decide
/-- P3, cycle 7: a CANCEL in the last cycle of an event misses its boundary. -/
theorem test_cancel_boundary : (after (exec (.cancel 2) runEBoundary)).map (fun t => (t.mode, t.k, t.cancelPend)) =
    some (.run, 1, true) := by decide
/-- V-X5: a CANCEL in END is ignored. -/
theorem test_cancel_end : (after (exec (.cancel 2) endE)).map (fun t => (t.mode, t.cancelPend, t.cause)) =
    some (.idle, false, .ok) := by decide
/-- V-H3: the end of the run wins over the DONE clear in its cycle. -/
theorem test_wrStatus_set_wins : (after (exec (.wrStatus 2) runELast)).map statusWord = some 0x13 := by decide
/-- V-H4: the DONE clear is taken in END. -/
theorem test_wrStatus_end : (after (exec (.wrStatus 2) endE)).map statusWord = some 0x10 := by decide
/-- V-H8: the upper half of the data is dropped. -/
theorem test_wrCount : (after (exec (.wrCount 0x10000) idleE)).map (fun t => t.count) = some 0 := by decide
/-- V-H10: a length beyond the RAM is stored. -/
theorem test_wrMsgLen : (after (exec (.wrMsgLen 0x101) idleE)).map (fun t => t.msgLen) = some 0x101 := by decide
/-- R253: 100000 cycles. -/
theorem test_wrUnitTicks : (after (exec (.wrUnitTicks 0x186A0) idleE)).map (fun t => t.unitTicks) = some 100000 := by decide
/-- V-H13: "SOS", the first character in the low byte. -/
theorem test_wrMsg : (after (exec (.wrMsg 0 0x00534F53) State.reset)).map (fun t => t.msg) =
    some [(0, 0x53), (1, 0x4F), (2, 0x53), (3, 0x00)] := by decide
/-- V-H12: a write of an unmapped offset changes no state (the outputs of the cycle are those of IDLE). -/
theorem test_wrUnmapped : after (exec (.wrUnmapped 5 0xFFFFFFFF) idleE) = some idleE := by decide
/-- V-R3: reset wins over a write. -/
theorem test_reset : (after (step { runE with pending := [resetPins] })).map (fun t => (t.mode, t.count, t.repgap, t.ports.led)) =
    some (.idle, 0, 7, true) := by decide
/-- R301 and R36: after reset every output is 0. -/
theorem test_reset_ports : portsNow State.reset = Ports.zero := by decide

/-! ### The instruction of a table word is the one that `step` runs -/

theorem test_fetch_charA : (after (step (State.reset.withFetchWord 8 0x41))).map (fun t => (t.mode, t.sched)) =
    some (.run, tokenEvents (encodeChar 0x41)) := by decide
theorem test_fetch_evDash : (after (step (State.reset.withFetchWord 16 0x047))).map (fun t => (t.ports.led, t.ticksLeft)) =
    some (true, 2) := by decide
theorem test_fetch_rdRegCtrl : (after (step (State.reset.withFetchWord 48 0))).map (fun t => t.ports.hRdata) =
    some 0x700 := by decide
theorem test_fetch_wrCount : (after (step (State.reset.withFetchWord 48 0x100800000003))).map (fun t => t.count) =
    some 3 := by decide

/-! ### The invariant holds somewhere -/

theorem idleE_inv : idleE.Inv :=
  ⟨by decide, by decide, by decide, (fun h => by cases h), (fun h => by cases h)⟩
theorem idleEmpty_inv : idleEmpty.Inv :=
  ⟨by decide, by decide, by decide, (fun h => by cases h), (fun h => by cases h)⟩
theorem runE_inv : runE.Inv :=
  ⟨by decide, by decide, by decide,
    fun _ => ⟨by decide, by decide, by decide, by decide, by decide, ⟨dotEvent, by decide⟩, by decide, by decide⟩,
    fun h => by cases h⟩
theorem runEBoundary_inv : runEBoundary.Inv :=
  ⟨by decide, by decide, by decide,
    fun _ => ⟨by decide, by decide, by decide, by decide, by decide, ⟨dotEvent, by decide⟩, by decide, by decide⟩,
    fun h => by cases h⟩
theorem endE_inv : endE.Inv :=
  ⟨by decide, by decide, by decide, (fun h => by cases h), fun _ => ⟨rfl, .inl rfl⟩⟩

/-- More pending inputs change nothing that the invariant says. -/
theorem inv_pending (s : State) (h : s.Inv) (ps : List Pins) : State.Inv { s with pending := ps } :=
  ⟨h.build_legal, h.ram_canonical, h.ram_in_range,
    fun m => let r := h.in_run m
      ⟨r.count_pos, r.unitTicks_pos, r.msgLen_fits, r.repgap_legal, r.sched_eq, r.current, r.done_clear, r.cause_none⟩,
    fun m => let r := h.in_end m
      ⟨r.done_set, r.cause_end⟩⟩

/-! ### Witnesses: the hypotheses of each statement are met, clause by clause -/

theorem witness_DecodeOfEncodeIsTheInstruction : Config.table.Legal ∧
    (∀ i ∈ [Instr.evRepgap 7, .evRepgap 15, .rdMsg 0, .rdMsg 63, .rdUnmapped 5, .rdUnmapped 63, .rdUnmapped 128, .rdUnmapped 1023,
      .wrCtrl 0xFFFFFFFC, .start 0xFFFFFFFF, .cancel 2, .wrMsg 63 0xFFFFFFFF, .wrUnmapped 128 1, .charUnknown00_1F 31, .charA],
      i.wellFormed Config.table = true) := by decide
theorem witness_smallest_and_largest_build :
    ({ msgMax := 4, fClk := 1 } : Config).Legal ∧ ({ msgMax := 3840, fClk := 1 } : Config).Legal ∧
    (Instr.rdMsg 959).wellFormed { msgMax := 3840, fClk := 1 } = true := by decide
theorem witness_EncodeOfDecodedHostAccessIsTheAccess : Config.table.Legal ∧
    (0x0FFC00000000#45).extractLsb' 32 2 = 0 ∧ (0x0FFC00000000#45)[44] = false ∧ (0x0FFC00000000#45).extractLsb' 0 32 = 0 ∧
    (0x11FC00000001#45).extractLsb' 32 2 = 0 ∧ (0x11FC00000001#45)[44] = true := by decide
theorem witness_EventRecordsDecodeToTheirEvents :
    eventOfInstr (.evRepgap 15) = some (repgapEvent 15) ∧ eventOfInstr .evDot = some dotEvent ∧
    (decodeEvent 0x126 = .ok .evPreSep) ∧ (0x01F#9).extractLsb' 5 4 = 0 ∧ 11 ≤ ((0x160#9).extractLsb' 5 4).toNat ∧
    11 ≤ ((0x1FF#9).extractLsb' 5 4).toNat := ⟨rfl, rfl, rfl, by decide, by decide, by decide⟩
theorem witness_LetterRule_alias : fold 0x61 = 0x41 ∧ fold 0x7A = 0x5A ∧ fold 0x60 = 0x60 ∧ fold 0x7B = 0x7B := by decide
theorem witness_LowercaseLettersRunAsUppercase :
    0x61 ≤ (0x61#8).toNat ∧ (0x61#8).toNat ≤ 0x7A ∧ 0x61 ≤ (0x7A#8).toNat ∧ (0x7A#8).toNat ≤ 0x7A := by decide
theorem witness_UnknownCharactersEmitNothing : encodeChar 0x21 = .unknown ∧ encodeChar 0x5B = .unknown ∧ encodeChar 0xFF = .unknown ∧
    fold 0x21 ≠ 0x20 ∧ encodeChar 0x5A ≠ .unknown := by decide
theorem witness_RomHoldsThirtySevenDistinctWords : rom 0x41 ≠ 0 ∧ rom 0x41 = rom 0x41 ∧ decodeRom (rom 0x45) = some (.letter [.dot]) ∧
    decodeRom (rom 0x30) = some (.letter [.dash, .dash, .dash, .dash, .dash]) := by decide
theorem witness_EveryOnEventIsFollowedByItsGap :
    (schedule [0x45])[0]? = some dotEvent ∧ (schedule [0x45])[1]? = some lettergapEvent ∧ dotEvent.level = .on ∧
    schedule [0x45] ≠ [] ∧ encodeChar 0x45 = .letter [.dot] ∧ encodeChar 0x20 = .wordGap ∧ encodeChar 0x3F = .unknown := by decide
theorem witness_ScheduleSizesAreThoseOfItsTokens : [Symbol.dot] ≠ [] := by decide
theorem witness_counts : 1 ≤ (1 : Nat) ∧ (65535 : Nat) ≤ 65535 ∧ (List.replicate 3840 (0x30 : Byte)).length ≤ 3840 :=
  ⟨by decide, by decide, Nat.le_of_eq List.length_replicate⟩
theorem witness_EventInstructionDrivesItsEvent : eventOfInstr .evDot = some dotEvent ∧ runE.mode = .run ∧
    (runE.ticksLeft = eventTicks runE dotEvent ∧ { runE with diagEn := true }.diagEn = true) ∧
    ¬ (runEBoundary.ticksLeft = eventTicks runEBoundary dotEvent ∧ runEBoundary.diagEn = true) := by decide
theorem witness_EventInstructionCountsDown : eventOfInstr .evDot = some dotEvent ∧ runE.mode = .run ∧ runE.pins.drvFault = false ∧
    1 < runE.ticksLeft.toNat := by decide
theorem witness_EventInstructionAtItsBoundary : eventOfInstr .evDot = some dotEvent ∧ runEBoundary.mode = .run ∧
    runEBoundary.pins.drvFault = false ∧ runEBoundary.ticksLeft = 1 ∧
    runEBoundary.events[runEBoundary.k + 1]? = some lettergapEvent ∧ runEBoundary.cancelPend = false ∧
    { runEBoundary with cancelPend := true }.cancelPend = true ∧
    runELast.ticksLeft = 1 ∧ runELast.events[runELast.k + 1]? = none := by decide
theorem witness_DriverFailureEndsTheRunAtOnce : State.Inv { runE with pending := [faultPins] } ∧
    { runE with pending := [faultPins] }.mode = .run ∧ (State.sample { runE with pending := [faultPins] }).pins.rst = false ∧
    (State.sample { runE with pending := [faultPins] }).pins.drvFault = true ∧ idleE.mode ≠ .run ∧ endE.mode ≠ .run :=
  ⟨inv_pending _ runE_inv _, by decide⟩
theorem witness_OutputsFollowTheModeAndTheEvent : (after (step runE)).isSome = true ∧ (after (step idleE)).isSome = true ∧
    (after (step endE)).isSome = true ∧ runE.events[runE.k]? = some dotEvent := by decide
theorem witness_DiagnosticTapShowsEachEventInItsFirstCycle : (after (step { runE with diagEn := true })).map
    (fun t => t.ports.diagValid) = some true ∧ (after (step runE)).map (fun t => t.ports.diagValid) = some false ∧
    { runE with diagEn := true }.events[0]? = some dotEvent := by decide
theorem witness_EventOccupiesExactlyItsCycles : runE.Inv ∧ runE.NoResetNoFault ∧ runE.mode = .run ∧
    runE.events[runE.k]? = some dotEvent ∧ runE.ticksLeft = eventTicks runE dotEvent :=
  ⟨runE_inv, (fun _ h => by cases h), by decide, by decide, by decide⟩
/-- The cycles after the START: a quiet one, and one with another START. -/
def laterPins : List Pins := [Pins.quiet, ctrlPins 0x701]
theorem witness_CompleteRunTimeline : State.Inv { idleE with pending := ctrlPins 0x701 :: laterPins } ∧
    { idleE with pending := ctrlPins 0x701 :: laterPins }.mode = .idle ∧ (ctrlPins 0x701).rst = false ∧
    (ctrlPins 0x701).writesCtrl 0x701 ∧ (0x701#32)[0] = true ∧
    (∀ q ∈ laterPins, q.rst = false ∧ q.drvFault = false ∧ ¬ q.cancels) ∧ 1 ≤ idleE.count.toNat ∧
    1 ≤ idleE.unitTicks.toNat ∧ idleE.msgLen.toNat ≤ idleE.cfg.msgMax ∧ 7 ≤ ((0x701#32).extractLsb' 8 4).toNat := by
  refine ⟨inv_pending _ idleE_inv _, by decide, by decide, ⟨by decide, by decide, by decide, by decide⟩, by decide, ?_,
    by decide, by decide, by decide, by decide⟩
  intro q hq
  simp only [laterPins, List.mem_cons, List.not_mem_nil, or_false] at hq
  rcases hq with rfl | rfl
  · exact ⟨rfl, rfl, fun ⟨_, ⟨h, _⟩, _⟩ => by cases h⟩
  · exact ⟨rfl, rfl, fun ⟨_, ⟨_, _, _, h⟩, hd⟩ => by subst h; exact absurd hd (by decide)⟩
theorem witness_EveryRunEndsWithOneRelease : runE.Inv ∧ runE.NoReset ∧ runE.mode = .run := ⟨runE_inv, (fun _ h => by cases h), by decide⟩
theorem witness_CancelLatencyIsBounded : State.Inv { runE with pending := [ctrlPins 2] } ∧
    State.NoReset { runE with pending := [ctrlPins 2] } ∧ { runE with pending := [ctrlPins 2] }.mode = .run ∧
    (ctrlPins 2).cancels :=
  ⟨inv_pending _ runE_inv _, (fun p h => by rw [List.mem_singleton.1 h]; decide), by decide, ⟨2, ⟨by decide, by decide, by decide, by decide⟩, by decide⟩⟩
theorem witness_DiagnosticsNeverChangeTheRun : (after (step runE)).isSome = true ∧ runE.AgreesButForTap runE ∧
    runE.AgreesButForTap { runE with diagEn := true, ports := { runE.ports with diagValid := true, hRdata := 0x708 } } ∧
    (after (step { runE with diagEn := true, ports := { runE.ports with diagValid := true, hRdata := 0x708 } })).isSome = true :=
  ⟨by decide, rfl, rfl, by decide⟩
theorem witness_MachinePartOfEveryCycle : idleE.mode = .idle ∧ endE.mode = .ending ∧ runE.mode = .run ∧ faultPins.drvFault = true ∧
    runE.pins.drvFault = false ∧ 1 < runE.ticksLeft.toNat ∧ runEBoundary.ticksLeft = 1 ∧
    runEBoundary.events[runEBoundary.k + 1]? = some lettergapEvent ∧ runEBoundary.cancelPend = false ∧
    runELast.ticksLeft = 1 ∧ runELast.events[runELast.k + 1]? = none := by decide
theorem witness_ReadsReturnTheRegisters : 4 * (0#10).toNat < State.reset.cfg.msgMax ∧ 4 * (63#10).toNat < State.reset.cfg.msgMax ∧
    64 + (63#10).toNat < 1024 := by decide
theorem witness_ConfigurationWritesAreTakenInIdleOnly : idleE.mode = .idle ∧ runE.mode ≠ .idle ∧ endE.mode ≠ .idle := by decide
theorem witness_CtrlWriteInIdleSetsItsFields : idleE.mode = .idle ∧ (0x704#32)[0] = false ∧ (0x702#32)[0] = false := by decide
theorem witness_StartAcceptedBeginsTheRun : idleE.mode = .idle ∧ (0x701#32)[0] = true ∧ 1 ≤ idleE.count.toNat ∧
    1 ≤ idleE.unitTicks.toNat ∧ idleE.msgLen.toNat ≤ idleE.cfg.msgMax ∧ 7 ≤ ((0x701#32).extractLsb' 8 4).toNat ∧
    (transmit idleE.count.toNat idleE.message (0x701#32)[2] ((0x701#32).extractLsb' 8 4))[0]? = some dotEvent := by decide
theorem witness_StartOfAnEmptyRunGoesToEnd : idleEmpty.mode = .idle ∧ (0x701#32)[0] = true ∧ idleEmpty.count.toNat = 1 ∧
    1 ≤ idleEmpty.unitTicks.toNat ∧ idleEmpty.msgLen.toNat ≤ idleEmpty.cfg.msgMax ∧ 7 ≤ ((0x701#32).extractLsb' 8 4).toNat ∧
    (0x701#32)[2] = false ∧ schedule idleEmpty.message = [] ∧
    ((after (exec (.start 0x701) idleEmpty)).bind (fun t => after (step t))).isSome = true ∧
    (after (exec (.start 0x701) idleEmpty)).map (fun t => t.sample.pins.rst) = some false := by decide
theorem witness_StartRefusedWhenACheckFails : idleE.mode = .idle ∧ (0x701#32)[0] = true ∧ { idleE with count := 0 }.count.toNat = 0 ∧
    { idleE with unitTicks := 0 }.unitTicks.toNat = 0 ∧ idleE.cfg.msgMax < { idleE with msgLen := 257 }.msgLen.toNat ∧
    (0x601#32)[0] = true ∧ ((0x601#32).extractLsb' 8 4).toNat < 7 := by decide
theorem witness_StartWhileBusyIsIgnored : runE.mode ≠ .idle ∧ endE.mode ≠ .idle ∧ (0xD05#32)[1] = false := by decide
theorem witness_CancelInRunIsLatched : runE.mode = .run ∧ (0x2#32)[1] = true ∧ (0x3#32)[1] = true ∧ runEBoundary.mode = .run ∧
    runEBoundary.pins.drvFault = false ∧ runEBoundary.ticksLeft = 1 ∧
    runEBoundary.events[runEBoundary.k + 1]? = some lettergapEvent ∧ runEBoundary.cancelPend = false := by decide
theorem witness_CancelOutsideRunIsIgnored : endE.mode = .ending ∧ idleE.mode = .idle ∧ (0x702#32)[1] = true ∧ (0x702#32)[0] = false ∧
    (0x703#32)[1] = true ∧ (0x703#32)[0] = true := by decide
theorem witness_StatusWriteClearsDoneUnlessTheRunEnds : (0x2#32)[1] = true ∧ (0x71#32)[1] = false ∧
    ¬ (endE.mode = .run ∧ (machinePart endE).mode = .ending) ∧ runELast.mode = .run ∧
    (machinePart runELast).mode = .ending := by decide
theorem witness_MessageWriteStoresFourBytes : 4 * (63#10).toNat < idleE.cfg.msgMax ∧ 64 + (63#10).toNat < 1024 ∧
    4 * (0#10).toNat < idleE.cfg.msgMax ∧ idleE.mode = .idle ∧ runE.mode ≠ .idle := by decide
theorem witness_UnmappedOffsetsReadZeroAndIgnoreWrites : idleE.cfg.msgMax ≤ 4 * (64#10).toNat := by decide
theorem witness_ConfigurationIsFrozenWhileBusy : runE.mode ≠ .idle ∧ endE.mode ≠ .idle ∧ runE.sample.pins.rst = false ∧
    (after (step runE)).isSome = true ∧ (after (step endE)).isSome = true := by decide
theorem witness_IdleHoldsWithoutAHostWrite : idleE.mode = .idle ∧ idleE.sample.pins.rst = false ∧
    ¬ (idleE.sample.pins.hValid = true ∧ idleE.sample.pins.hWrite = true) ∧ idleE.sample.pins.hValid = false := by decide
theorem witness_EndLastsOneCycle : endE.mode = .ending ∧ endE.sample.pins.rst = false ∧
    (State.sample { endE with pending := [ctrlPins 3] }).pins.rst = false := by decide
theorem witness_ResetWinsOverEverything : (State.sample { runE with pending := [resetPins] }).pins.rst = true := by decide
theorem witness_EveryStepKeepsTheInvariant : runE.Inv ∧ (after (step runE)).isSome = true ∧ endE.Inv ∧
    (after (step endE)).isSome = true := ⟨runE_inv, by decide, endE_inv, by decide⟩
theorem witness_EveryStepCompletes : runE.Inv ∧ idleE.Inv ∧ endE.Inv := ⟨runE_inv, idleE_inv, endE_inv⟩
theorem witness_StepRunsTheHostAccess : (State.sample { idleE with pending := [ctrlPins 0x701] }).pins.rst = false ∧
    (State.sample { idleE with pending := [ctrlPins 0x701] }).pins.access? = some 0x100000000701 := by decide
theorem witness_StepRunsTheEventOnTheOutput : runE.mode = .run ∧ runE.sample.pins.rst = false ∧ runE.sample.pins.hValid = false ∧
    runE.events[runE.k]? = some dotEvent ∧ decodeEvent dotEvent.pack = .ok .evDot :=
  ⟨by decide, by decide, by decide, by decide, rfl⟩
theorem witness_StartRunsTheCharactersInOrder : idleE.mode = .idle ∧ (0x701#32)[0] = true ∧ 1 ≤ idleE.count.toNat ∧
    1 ≤ idleE.unitTicks.toNat ∧ idleE.msgLen.toNat ≤ idleE.cfg.msgMax ∧ 7 ≤ ((0x701#32).extractLsb' 8 4).toNat ∧
    (after (exec (.start 0x701) idleE)).isSome = true := by decide

theorem witness_LoadMsgStoresTheText : idleE.Inv ∧ idleE.mode = .idle ∧ ([0x53, 0x4F, 0x53] : List Byte).length ≤ idleE.cfg.msgMax ∧
    ([] : List Byte).length ≤ idleE.cfg.msgMax := ⟨idleE_inv, by decide, by decide, by decide⟩
theorem witness_StartUpSequenceSendsTheMessage : idleE.Inv ∧ idleE.mode = .idle ∧
    ([0x45] : List Byte).length ≤ idleE.cfg.msgMax ∧ 1 ≤ (1#16).toNat ∧ 1 ≤ (1#32).toNat ∧ 7 ≤ (7#4).toNat ∧ 7 ≤ (15#4).toNat :=
  ⟨idleE_inv, by decide, by decide, by decide, by decide, by decide, by decide⟩

/-- R304, step 5, and program P2: REPGAP 10, DIAG_EN and PRE_EN. -/
theorem test_startWord : startWord 10 true true = 0xA0D := by decide
/-- R93: `LOADMSG "SOS"`. -/
theorem test_loadMsg : loadMsg [0x53, 0x4F, 0x53] = [.wr 0x100 0x00534F53, .wr 0x00C 0x3] := by decide

end Sys2Proof.Tests
end

section
/-! Time in seconds (R8, R227). -/

namespace Sys2Proof.Proofs

open Sys2Proof Sys2Proof.Machine

/-- Settles O59. The 36-bit tick counter holds the whole product (`eventTicks_toNat`), so the quotient is exact (R8, R227). -/
theorem eventSecondsAreUnitsTimesTicksOverClock : Obligations.EventSecondsAreUnitsTimesTicksOverClock := by
  intro s e
  calc eventSeconds s e
      = ((eventTicks s e).toNat : Rat) / (s.cfg.fClk : Rat) := rfl
    _ = ((e.units.toNat * s.unitTicks.toNat : Nat) : Rat) / (s.cfg.fClk : Rat) := by rw [eventTicks_toNat]

end Sys2Proof.Proofs
end

section
/-! The event sequence of a run: its shape, its length, and the units of its events (R152, R190, R200). -/

namespace Sys2Proof.Proofs

open Sys2Proof Sys2Proof.Machine

/-! ### The events of one token -/

/-- LEN 0, 6 and 7 are no letter, so a letter has at most five symbols (R83, R84). -/
theorem length_le_five_of_decodeRom {w : Byte} {ss : List Symbol} (h : decodeRom w = some (.letter ss)) :
    ss.length ≤ 5 := by
  simp only [decodeRom] at h
  split_ifs at h with h0 h7 h6
  · cases h
  · cases h
  · cases h
    have hlen := (w.extractLsb' 5 3).isLt
    rw [List.length_map, List.length_range]
    omega

theorem length_le_five_of_encodeChar {c : Byte} {ss : List Symbol} (h : encodeChar c = .letter ss) : ss.length ≤ 5 :=
  length_le_five_of_decodeRom (h ▸ decodeRom_rom_fold c)

/-- Each symbol emits two events, its own and the gap after it (R152). -/
theorem length_letterEvents (ss : List Symbol) : (letterEvents ss).length = 2 * ss.length := by
  fun_induction letterEvents ss with
  | case1 => rfl
  | case2 s => rfl
  | case3 s rest hrest ih => simp only [List.length_cons, ih]; omega

theorem length_tokenEvents_encodeChar_le (c : Byte) : (tokenEvents (encodeChar c)).length ≤ 10 := by
  cases h : encodeChar c with
  | letter ss =>
    have hlen := length_le_five_of_encodeChar h
    rw [tokenEvents_letter, length_letterEvents]
    omega
  | wordGap => simp
  | unknown => simp

theorem one_le_units_symbolEvent (s : Symbol) : 1 ≤ (symbolEvent s).units.toNat := by
  cases s <;> decide

theorem one_le_units_of_mem_letterEvents {ss : List Symbol} {e : Event} (h : e ∈ letterEvents ss) :
    1 ≤ e.units.toNat := by
  fun_induction letterEvents ss with
  | case1 => cases h
  | case2 s =>
    obtain rfl | rfl : e = symbolEvent s ∨ e = lettergapEvent := by simpa using h
    · exact one_le_units_symbolEvent s
    · decide
  | case3 s rest hrest ih =>
    obtain rfl | rfl | h : e = symbolEvent s ∨ e = symgapEvent ∨ e ∈ letterEvents rest := by simpa using h
    · exact one_le_units_symbolEvent s
    · decide
    · exact ih h

theorem one_le_units_of_mem_tokenEvents {t : Token} {e : Event} (h : e ∈ tokenEvents t) : 1 ≤ e.units.toNat := by
  cases t with
  | letter ss => exact one_le_units_of_mem_letterEvents h
  | wordGap => obtain rfl := List.mem_singleton.1 h; decide
  | unknown => cases h

/-! ### The events of a message -/

theorem length_schedule_le (msg : List Byte) : (schedule msg).length ≤ 10 * msg.length := by
  induction msg with
  | nil => simp
  | cons c msg ih =>
    have hc := length_tokenEvents_encodeChar_le c
    rw [schedule_cons, List.length_append, List.length_cons]
    omega

theorem one_le_units_of_mem_schedule {msg : List Byte} {e : Event} (h : e ∈ schedule msg) : 1 ≤ e.units.toNat := by
  obtain ⟨c, _, hc⟩ := List.mem_flatMap.1 h
  exact one_le_units_of_mem_tokenEvents hc

/-! ### The events of a run -/

/-- The repetitions after the first: a REPGAP before each, no preamble (R190, R192). -/
theorem repetitionsFrom_pos (sched : List Event) (pre : Bool) (g : BitVec 4) (i n : Nat) :
    repetitionsFrom sched pre g (i + 1) n = (List.replicate n (repgapEvent g :: sched)).flatten := by
  induction n generalizing i with
  | zero => rfl
  | succ n ih => simp [ih, repetition, List.replicate_succ]

/-- The shape of `E`: the preamble once if enabled, then the copies, with a REPGAP before every copy but the first
(R190, R192). -/
theorem transmitEvents_succ (n : Nat) (sched : List Event) (pre : Bool) (g : BitVec 4) :
    transmitEvents (n + 1) sched pre g =
      (if pre then preamble else []) ++ sched ++ (List.replicate n (repgapEvent g :: sched)).flatten := by
  rw [transmitEvents, repetitionsFrom_succ, repetitionsFrom_pos]
  simp [repetition]

theorem length_transmitEvents_succ (n : Nat) (sched : List Event) (pre : Bool) (g : BitVec 4) :
    (transmitEvents (n + 1) sched pre g).length = (n + 1) * sched.length + n + (if pre then 8 else 0) := by
  have hpre : (if pre then preamble else []).length = if pre then 8 else 0 := by cases pre <;> rfl
  simp only [transmitEvents_succ, List.length_append, hpre, List.length_flatten, List.map_replicate, List.length_cons,
    List.sum_replicate, smul_eq_mul]
  ring

/-- An event of a run is one of the preamble, of the message or a REPGAP (R190). -/
theorem mem_of_mem_transmitEvents {n : Nat} {sched : List Event} {pre : Bool} {g : BitVec 4} {e : Event}
    (h : e ∈ transmitEvents n sched pre g) : e ∈ preamble ∨ e ∈ sched ∨ e = repgapEvent g := by
  cases n with
  | zero => cases h
  | succ n =>
    rw [transmitEvents_succ, List.mem_append, List.mem_append, List.mem_flatten] at h
    rcases h with (h | h) | ⟨copy, hcopy, h⟩
    · cases pre with
      | false => cases h
      | true => exact .inl h
    · exact .inr (.inl h)
    · obtain rfl := List.eq_of_mem_replicate hcopy
      exact .inr ((List.mem_cons.1 h).symm)

/-- With a legal REPGAP no event of a run is empty, so `ticks_left` is at least 1 when it is loaded (R23, R243). -/
theorem one_le_units_of_mem_transmitEvents {n : Nat} {msg : List Byte} {pre : Bool} {g : BitVec 4} {e : Event}
    (hg : 7 ≤ g.toNat) (h : e ∈ transmitEvents n (schedule msg) pre g) : 1 ≤ e.units.toNat := by
  rcases mem_of_mem_transmitEvents h with h | h | rfl
  · have hpre : ∀ e ∈ preamble, 1 ≤ e.units.toNat := by decide
    exact hpre e h
  · exact one_le_units_of_mem_schedule h
  · exact le_trans (by decide) hg

/-- Settles O19. `E` has the shape of `transmitEvents_succ`, and a character emits at most ten events. -/
theorem runLengthInEvents : Obligations.RunLengthInEvents := by
  intro count msg pre g hcount
  obtain ⟨n, rfl⟩ : ∃ n, count = n + 1 := ⟨count - 1, by omega⟩
  have hlen : (transmit (n + 1) msg pre g).length =
      (n + 1) * (schedule msg).length + (n + 1 - 1) + (if pre then 8 else 0) :=
    length_transmitEvents_succ n (schedule msg) pre g
  refine ⟨hlen, ?_, fun hmax hmsg => ?_⟩
  · rw [← List.length_eq_zero_iff, hlen, ← List.length_eq_zero_iff]
    cases pre with
    | false => simp [and_comm]
    | true => simp
  · have hsched : (n + 1) * (schedule msg).length ≤ 65535 * (10 * 3840) :=
      Nat.mul_le_mul hmax (le_trans (length_schedule_le msg) (Nat.mul_le_mul_left 10 hmsg))
    have hpre : (if pre then 8 else 0) ≤ 8 := by split <;> decide
    rw [hlen]
    omega

end Sys2Proof.Proofs
end

section
/-! What one clock cycle can be (R210, R211): a reset, a quiet cycle, an event, a read or a write. -/

namespace Sys2Proof.Proofs

open Sys2Proof Sys2Proof.Machine

/-! ### The instructions of the three units -/

/-- The writes that a host access can make, each judged on the state of the cycle (R242 to R256). -/
inductive HostWrite : (State → State → State) → Prop
  | ctrl (d : Word) : HostWrite (writeCtrl d)
  | status (d : Word) : HostWrite (writeStatus d)
  | count (v : BitVec 16) : HostWrite (writeIfIdle fun t => { t with count := v })
  | msgLen (v : BitVec 12) : HostWrite (writeIfIdle fun t => { t with msgLen := v })
  | unitTicks (v : Word) : HostWrite (writeIfIdle fun t => { t with unitTicks := v })
  | msg (j : BitVec 10) (d : Word) : HostWrite (writeMsg j d)
  | unmapped : HostWrite writeNothing

/-- A host access is a read of some word or one of the writes, and its meaning is a whole cycle (R211, R240). -/
theorem exec_decodeHost_cases (cfg : Config) (w : BitVec 45) (s : State) :
    (∃ v, exec (decodeHost cfg w) s = .next (readCycle v s)) ∨
    (∃ f, HostWrite f ∧ exec (decodeHost cfg w) s = .next (writeCycle f s)) := by
  simp only [decodeHost]
  split
  · right
    split
    · split_ifs
      · exact ⟨_, .ctrl _, rfl⟩
      · exact ⟨_, .ctrl _, rfl⟩
      · exact ⟨_, .ctrl _, rfl⟩
    · exact ⟨_, .status _, rfl⟩
    · exact ⟨_, .count _, rfl⟩
    · exact ⟨_, .msgLen _, rfl⟩
    · exact ⟨_, .unitTicks _, rfl⟩
    · split_ifs
      · exact ⟨_, .msg _ _, rfl⟩
      · exact ⟨_, .unmapped, rfl⟩
  · left
    split
    · exact ⟨_, rfl⟩
    · exact ⟨_, rfl⟩
    · exact ⟨_, rfl⟩
    · exact ⟨_, rfl⟩
    · exact ⟨_, rfl⟩
    · split_ifs
      · exact ⟨_, rfl⟩
      · exact ⟨_, rfl⟩

/-- An event instruction is one cycle with its event on the output (R211, R218). -/
theorem exec_of_eventOfInstr {i : Instr} {e : Event} (h : eventOfInstr i = some e) (s : State) :
    exec i s = .next (eventCycle e s) := by
  cases i with
  | evDot | evDash | evSymgap | evLettergap | evWordgap | evPreSettle | evPreDot | evPreGap | evPreSep | evRepgap =>
    cases h; rfl
  | _ => cases h

/-- A record that decodes is that of an event instruction (R86). -/
theorem eventOfInstr_of_decodeEvent {r : BitVec 9} {i : Instr} (h : decodeEvent r = .ok i) :
    ∃ e, eventOfInstr i = some e := by
  have hfixed : ∀ row ∈ fixedEventRecords, (eventOfInstr row.2).isSome = true := by decide
  simp only [decodeEvent] at h
  split at h
  · cases h
    exact Option.isSome_iff_exists.1 (hfixed _ (List.mem_of_find?_eq_some ‹_›))
  · split_ifs at h
    cases h
    exact ⟨_, rfl⟩

/-! ### The cases of a step -/

/-- A cycle runs a host access or an event record; a character is no frame of a cycle (log entry 10). -/
theorem fetch_cases {s : State} {f : Frame} (h : fetch s = some f) :
    (∃ w, f = .host45 w) ∨ (∃ r, f = .event9 r) := by
  simp only [fetch] at h
  split at h
  · cases h; exact .inl ⟨_, rfl⟩
  · split_ifs at h
    obtain ⟨e, _, rfl⟩ := Option.map_eq_some_iff.1 h
    exact .inr ⟨_, rfl⟩

/-- Everything a step can do (R210, R211, R300). -/
theorem step_cases {s t : State} (h : step s = .next t) :
    t = resetCycle s.sample ∨ t = quietCycle s.sample ∨ (∃ e, t = eventCycle e s.sample) ∨
    (∃ v, t = readCycle v s.sample) ∨ (∃ f, HostWrite f ∧ t = writeCycle f s.sample) := by
  simp only [step] at h
  split at h
  · cases h; exact .inl rfl
  split at h
  · cases h; exact .inr (.inl rfl)
  next f hf =>
    rcases fetch_cases hf with ⟨w, rfl⟩ | ⟨r, rfl⟩
    · simp only [decode] at h
      rcases exec_decodeHost_cases s.sample.cfg w s.sample with ⟨v, hv⟩ | ⟨g, hg, hw⟩
      · cases hv.symm.trans h; exact .inr (.inr (.inr (.inl ⟨v, rfl⟩)))
      · cases hw.symm.trans h; exact .inr (.inr (.inr (.inr ⟨g, hg, rfl⟩)))
    · split at h
      · next i hi =>
        obtain ⟨e, he⟩ := eventOfInstr_of_decodeEvent hi
        cases (exec_of_eventOfInstr he s.sample).symm.trans h
        exact .inr (.inr (.inl ⟨e, rfl⟩))
      · cases h

end Sys2Proof.Proofs
end

section
/-! The invariant of the machine: it holds at reset and every step keeps it (R21, R23, R25, R223, R244, R255). -/

namespace Sys2Proof.Proofs

open Sys2Proof Sys2Proof.Machine

/-! ### The invariant, state by state -/

/-- While IDLE the invariant asks only for a legal build and a canonical message RAM inside it. -/
theorem inv_of_idle {s : State} (hmode : s.mode = .idle) (hcfg : s.cfg.Legal) (hwf : Memory.wf s.msg)
    (hrange : ∀ c ∈ s.msg, c.1 < s.cfg.msgMax) : s.Inv where
  build_legal := hcfg
  ram_canonical := hwf
  ram_in_range := hrange
  in_run h := by simp [hmode] at h
  in_end h := by simp [hmode] at h

/-- The invariant reads neither the ports nor the inputs to come nor `cancel_pend`. -/
theorem inv_of_unread_fields {s : State} (h : s.Inv) (pins : Pins) (ports : Ports) (pending : List Pins) (c : Bool) :
    State.Inv { s with pins := pins, ports := ports, pending := pending, cancelPend := c } where
  build_legal := h.build_legal
  ram_canonical := h.ram_canonical
  ram_in_range := h.ram_in_range
  in_run hm :=
    let r := h.in_run hm
    { r with sched_eq := r.sched_eq, current := r.current }
  in_end := fun hm => ⟨(h.in_end hm).done_set, (h.in_end hm).cause_end⟩

theorem inv_drive {s : State} (h : s.Inv) (p : Ports) : (s.drive p).Inv :=
  inv_of_unread_fields h s.pins p s.pending s.cancelPend

theorem inv_cancelPend {s : State} (h : s.Inv) (c : Bool) : State.Inv { s with cancelPend := c } :=
  inv_of_unread_fields h s.pins s.ports s.pending c

theorem inv_sample {s : State} (h : s.Inv) : s.sample.Inv := by
  cases hp : s.pending with
  | nil => rw [sample_nil hp]; exact inv_of_unread_fields h _ s.ports s.pending s.cancelPend
  | cons p rest => rw [sample_cons hp]; exact inv_of_unread_fields h p s.ports rest s.cancelPend

/-- Settles O52. Reset is an IDLE state of the build of the opcode table, with no byte listed. -/
theorem resetHasTheInvariant : Obligations.ResetHasTheInvariant :=
  inv_of_idle rfl (by decide) reset_msg_wf (fun c hc => by cases hc)

theorem inv_resetCycle {s : State} (h : s.Inv) : (resetCycle s).Inv :=
  inv_of_idle rfl h.build_legal reset_msg_wf (fun c hc => by cases hc)

/-! ### Part (a) keeps the invariant (R212 to R216) -/

theorem inv_finish {s : State} (h : s.Inv) {c : Cause} (hc : c = .ok ∨ c = .cancelled ∨ c = .driverFault) :
    (finish c s).Inv where
  build_legal := h.build_legal
  ram_canonical := h.ram_canonical
  ram_in_range := h.ram_in_range
  in_run hm := by cases hm
  in_end _ := ⟨rfl, hc⟩

theorem inv_leaveEnd {s : State} (h : s.Inv) : (leaveEnd s).Inv :=
  inv_of_idle rfl h.build_legal h.ram_canonical h.ram_in_range

/-- Within a run the current event may move and its ticks may count, as long as ticks are left of an event of `E`
(R21, R23). -/
theorem inv_advance {s : State} (h : s.Inv) (hrun : s.mode = .run) {k : Nat} {ticks : BitVec 36} {e : Event}
    (he : s.eventAt? k = some e) (hpos : 1 ≤ ticks.toNat) (hle : ticks.toNat ≤ (eventTicks s e).toNat) :
    State.Inv { s with k := k, ticksLeft := ticks } where
  build_legal := h.build_legal
  ram_canonical := h.ram_canonical
  ram_in_range := h.ram_in_range
  in_run _ := { h.in_run hrun with
    sched_eq := (h.in_run hrun).sched_eq
    current := ⟨e, he, hpos, hle⟩ }
  in_end hm := by simp [hrun] at hm

/-- A whole event of a run with legal settings lasts at least one cycle (R23, R217). -/
theorem one_le_eventTicks {s : State} {e : Event} {i : Nat} (hticks : 1 ≤ s.unitTicks.toNat) (hgap : 7 ≤ s.repgap.toNat)
    (hsched : s.sched = schedule s.message) (he : s.eventAt? i = some e) : 1 ≤ (eventTicks s e).toNat := by
  have hmem : e ∈ transmitEvents s.count.toNat (schedule s.message) s.preEn s.repgap := by
    rw [← hsched]; exact List.mem_of_getElem? he
  rw [eventTicks_toNat]
  exact Nat.mul_pos (one_le_units_of_mem_transmitEvents hgap hmem) hticks

theorem inv_boundary {s : State} (h : s.Inv) (hrun : s.mode = .run) : (boundary s).Inv := by
  have hr := h.in_run hrun
  rcases boundary_cases s with ⟨e, _, _, hb⟩ | ⟨e, he, _, hb⟩ | ⟨_, hb⟩ <;> rw [hb]
  · exact inv_finish h (.inr (.inl rfl))
  · exact inv_advance h hrun he (one_le_eventTicks hr.unitTicks_pos hr.repgap_legal hr.sched_eq he) le_rfl
  · exact inv_finish h (.inl rfl)

theorem inv_runStep {s : State} (h : s.Inv) (hrun : s.mode = .run) : (runStep s).Inv := by
  rcases runStep_cases s with ⟨_, hs⟩ | ⟨_, hlt, hs⟩ | ⟨_, _, hs⟩ | ⟨_, _, hs⟩ <;> rw [hs]
  · exact inv_finish h (.inr (.inr rfl))
  · obtain ⟨e, he, _, hle⟩ := (h.in_run hrun).current
    exact inv_advance h hrun he (by bv_omega) (by bv_omega)
  · exact inv_boundary h hrun
  · exact h

theorem inv_machinePart {s : State} (h : s.Inv) : (machinePart s).Inv := by
  cases hm : s.mode with
  | idle => rw [machinePart_idle hm]; exact h
  | run => rw [machinePart_run hm]; exact inv_runStep h hm
  | ending => rw [machinePart_ending hm]; exact inv_leaveEnd h

/-! ### Part (b) keeps the invariant (R242 to R256) -/

/-- An accepted START establishes the invariant of a run, by the checks that it made (R243, R244, R246). -/
theorem inv_acceptStart {s : State} (h : s.Inv) (hvalid : startValid s = true) : (acceptStart s).Inv := by
  obtain ⟨hcount, hticks, hlen, hgap⟩ := (startValid_iff s).1 hvalid
  rcases acceptStart_cases s with ⟨e, he, ha⟩ | ⟨_, ha⟩ <;> rw [ha]
  · refine ⟨h.build_legal, h.ram_canonical, h.ram_in_range, fun _ => ?_, fun hm => by cases hm⟩
    exact ⟨hcount, hticks, hlen, hgap, rfl, ⟨e, he, one_le_eventTicks hticks hgap rfl he, le_rfl⟩, rfl, rfl⟩
  · exact ⟨h.build_legal, h.ram_canonical, h.ram_in_range, (fun hm => by cases hm), fun _ => ⟨rfl, .inl rfl⟩⟩

theorem inv_startRequest {s : State} (h : s.Inv) (hidle : s.mode = .idle) : (startRequest s).Inv := by
  unfold startRequest
  split
  · exact inv_acceptStart h ‹_›
  · exact inv_of_idle hidle h.build_legal h.ram_canonical h.ram_in_range

theorem inv_writeCtrl {s : State} (h : s.Inv) (d : Word) : (writeCtrl d s (machinePart s)).Inv := by
  have hset (hidle : s.mode = .idle) : (setCtrlFields d (machinePart s)).Inv := by
    rw [machinePart_idle hidle]
    exact inv_of_idle hidle h.build_legal h.ram_canonical h.ram_in_range
  rcases writeCtrl_cases d s (machinePart s) with
    ⟨hidle, _, hw⟩ | ⟨hidle, _, hw⟩ | ⟨_, _, hw⟩ | ⟨_, _, hw⟩ <;> rw [hw]
  · exact inv_startRequest (hset hidle) (by rw [setCtrlFields_mode, machinePart_idle hidle, hidle])
  · exact hset hidle
  · exact inv_cancelPend (inv_machinePart h) true
  · exact inv_machinePart h

/-- A clear of DONE is taken only in a cycle that does not end the run, so END still has DONE set (R250). -/
theorem inv_writeStatus {s : State} (h : s.Inv) (d : Word) : (writeStatus d s (machinePart s)).Inv := by
  have hm := inv_machinePart h
  rcases writeStatus_cases d s (machinePart s) with ⟨_, hends, hw⟩ | ⟨_, hw⟩ <;> rw [hw]
  · refine ⟨hm.build_legal, hm.ram_canonical, hm.ram_in_range, fun hrun => ?_, fun hend => ?_⟩
    · have hr := hm.in_run hrun
      exact { hr with sched_eq := hr.sched_eq, current := hr.current, done_clear := rfl }
    · cases hends.symm.trans ((machinePart_ending_iff s).1 hend)
  · exact hm

/-- A write that is taken in IDLE only keeps the invariant if it keeps it on IDLE states (R255). -/
theorem inv_writeIfIdle {s : State} (h : s.Inv) {set : State → State} (hset : s.mode = .idle → (set s).Inv) :
    (writeIfIdle set s (machinePart s)).Inv := by
  by_cases hidle : s.mode = .idle
  · rw [writeIfIdle_idle hidle, machinePart_idle hidle]; exact hset hidle
  · rw [writeIfIdle_busy hidle]; exact inv_machinePart h

/-- `MSG_MAX` is a multiple of 4, so a message word in range lies in the RAM with all its bytes (R5, R62). -/
theorem inv_setMsgWord {s : State} (h : s.Inv) (hidle : s.mode = .idle) {j : BitVec 10} (d : Word)
    (hj : msgWordInRange s.cfg j = true) : (State.setMsgWord j.toNat d s).Inv := by
  refine inv_of_idle hidle h.build_legal (setMsgWord_wf h.ram_canonical _ _) fun c hc => ?_
  obtain ⟨hmul, _, _, _⟩ := h.build_legal
  have hlt : 4 * j.toNat < s.cfg.msgMax := by
    simp only [msgWordInRange, Bool.and_eq_true, decide_eq_true_eq] at hj
    exact hj.1
  rw [setMsgWord_cfg]
  rcases mem_setMsgWord hc with ⟨_, hc⟩ | hc
  · omega
  · exact h.ram_in_range c hc

theorem inv_writeMsg {s : State} (h : s.Inv) (j : BitVec 10) (d : Word) : (writeMsg j d s (machinePart s)).Inv := by
  rcases writeMsg_cases j d s (machinePart s) with ⟨hidle, hj, hw⟩ | ⟨_, hw⟩ <;> rw [hw]
  · rw [machinePart_idle hidle]; exact inv_setMsgWord h hidle d hj
  · exact inv_machinePart h

theorem inv_hostWrite {s : State} (h : s.Inv) {f : State → State → State} (hf : HostWrite f) :
    (f s (machinePart s)).Inv := by
  cases hf with
  | ctrl d => exact inv_writeCtrl h d
  | status d => exact inv_writeStatus h d
  | count | msgLen | unitTicks =>
    exact inv_writeIfIdle h fun hidle => inv_of_idle hidle h.build_legal h.ram_canonical h.ram_in_range
  | msg j d => exact inv_writeMsg h j d
  | unmapped => exact inv_machinePart h

/-- Settles O51. A cycle is a reset, or part (a) with a write or none, and each of them keeps the invariant. -/
theorem everyStepKeepsTheInvariant : Obligations.EveryStepKeepsTheInvariant := by
  intro s t hs hstep
  have h := inv_sample hs
  rcases step_cases hstep with rfl | rfl | ⟨e, rfl⟩ | ⟨v, rfl⟩ | ⟨f, hf, rfl⟩
  · exact inv_resetCycle h
  · exact inv_drive (inv_machinePart h) _
  · exact inv_drive (inv_machinePart h) _
  · exact inv_drive (inv_machinePart h) _
  · exact inv_drive (inv_hostWrite h hf) _

end Sys2Proof.Proofs
end

section
/-! The registers as the host reads and writes them (R27 to R32, R241, R242, R251 to R253), and their values after reset
(R38). -/

namespace Sys2Proof.Proofs

open Sys2Proof Sys2Proof.Machine

/-! ### The words of the registers as numbers -/

/-- Fields packed side by side are the digits of a number. -/
theorem toNat_append_eq_add {n m : Nat} (x : BitVec n) (y : BitVec m) : (x ++ y).toNat = x.toNat * 2 ^ m + y.toNat := by
  rw [BitVec.toNat_append, ← Nat.shiftLeft_add_eq_or_of_lt y.isLt, Nat.shiftLeft_eq]

theorem ctrlWord_toNat (s : State) :
    (ctrlWord s).toNat = s.repgap.toNat * 256 + s.diagEn.toNat * 8 + s.preEn.toNat * 4 := by
  simp only [ctrlWord, toNat_append_eq_add, BitVec.toNat_ofBool, BitVec.toNat_ofNat]
  omega

theorem statusWord_toNat (s : State) :
    (statusWord s).toNat = s.cause.code.toNat * 16 + s.done.toNat * 2 + (decide (s.mode ≠ .idle)).toNat := by
  simp only [statusWord, State.busy, toNat_append_eq_add, BitVec.toNat_ofBool, BitVec.toNat_ofNat]
  omega

theorem countWord_toNat (s : State) : (countWord s).toNat = s.count.toNat :=
  BitVec.toNat_setWidth_of_le (by decide)

theorem msgLenWord_toNat (s : State) : (msgLenWord s).toNat = s.msgLen.toNat :=
  BitVec.toNat_setWidth_of_le (by decide)

/-- A message word is little-endian (R62). -/
theorem wordOfBytes_toNat (b0 b1 b2 b3 : Byte) :
    (wordOfBytes b0 b1 b2 b3).toNat = b0.toNat + b1.toNat * 2 ^ 8 + b2.toNat * 2 ^ 16 + b3.toNat * 2 ^ 24 := by
  simp only [wordOfBytes, toNat_append_eq_add]
  omega

theorem msgWordInRange_iff (cfg : Config) (j : BitVec 10) :
    msgWordInRange cfg j = true ↔ 4 * j.toNat < cfg.msgMax ∧ 64 + j.toNat < 1024 := by
  simp [msgWordInRange]

/-- Settles O32. Each read is a `readCycle` of its register's word. -/
theorem readsReturnTheRegisters : Obligations.ReadsReturnTheRegisters := by
  refine ⟨rfl, rfl, rfl, rfl, rfl, fun s => ⟨?ctrl, ?status, ?count, ?msgLen, rfl, fun j hj hwindow => ?msg, fun _ => rfl⟩⟩
  case ctrl => exact ⟨ctrlWord s, rfl, ctrlWord_toNat s⟩
  case status => exact ⟨statusWord s, rfl, statusWord_toNat s⟩
  case count => exact ⟨countWord s, rfl, countWord_toNat s⟩
  case msgLen => exact ⟨msgLenWord s, rfl, msgLenWord_toNat s⟩
  case msg =>
    have hread := readMsg_inRange ((msgWordInRange_iff s.cfg j).2 ⟨hj, hwindow⟩)
    exact ⟨readMsg s j, rfl, by rw [hread, State.msgWord, wordOfBytes_toNat]⟩

/-! ### Writes taken in IDLE -/

/-- In IDLE there is nothing but the write in the cycle (R211, R216). -/
theorem writeCycle_idle {s : State} (h : s.mode = .idle) (f : State → State → State) :
    writeCycle f s = { f s s with ports := portsNow s } := by
  rw [writeCycle_eq, machinePart_idle h]

theorem writeCycle_writeIfIdle_idle {s : State} (h : s.mode = .idle) (set : State → State) :
    writeCycle (writeIfIdle set) s = { set s with ports := portsNow s } := by
  rw [writeCycle_idle h, writeIfIdle_idle h]

/-- While BUSY a frozen write leaves the cycle to part (a) (R255). -/
theorem writeCycle_writeIfIdle_busy {s : State} (h : s.mode ≠ .idle) (set : State → State) :
    writeCycle (writeIfIdle set) s = { machinePart s with ports := portsNow s } := by
  rw [writeCycle_eq, writeIfIdle_busy h]

theorem exec_wrCount (d : Word) (s : State) :
    exec (.wrCount d) s = .next (writeCycle (writeIfIdle fun t => { t with count := countValue d }) s) := rfl

theorem exec_wrMsgLen (d : Word) (s : State) :
    exec (.wrMsgLen d) s = .next (writeCycle (writeIfIdle fun t => { t with msgLen := msgLenValue d }) s) := rfl

theorem exec_wrUnitTicks (d : Word) (s : State) :
    exec (.wrUnitTicks d) s = .next (writeCycle (writeIfIdle fun t => { t with unitTicks := d }) s) := rfl

/-- Settles O34. The three writes are one shape, `writeIfIdle`. -/
theorem configurationWritesAreTakenInIdleOnly : Obligations.ConfigurationWritesAreTakenInIdleOnly := by
  intro d s
  rw [exec_wrCount, exec_wrMsgLen, exec_wrUnitTicks]
  constructor
  · intro hidle
    have htaken := writeCycle_writeIfIdle_idle hidle
    exact ⟨congrArg _ (htaken _), congrArg _ (htaken _), congrArg _ (htaken _)⟩
  · intro hbusy
    have hignored := writeCycle_writeIfIdle_busy hbusy
    exact ⟨congrArg _ (hignored _), congrArg _ (hignored _), congrArg _ (hignored _)⟩

/-- In IDLE a CTRL write without START only sets the three fields (R242, R249). -/
theorem writeCtrl_idle_of_no_start {d : Word} {s : State} (hidle : s.mode = .idle) (hstart : d[0] = false)
    (s' : State) : writeCtrl d s s' = setCtrlFields d s' := by
  rcases writeCtrl_cases d s s' with ⟨_, h, _⟩ | ⟨_, _, hw⟩ | ⟨h, _, _⟩ | ⟨h, _, _⟩
  · cases hstart.symm.trans h
  · exact hw
  · cases hidle.symm.trans h
  · exact absurd hidle h

/-- Settles O35. WR_CTRL and CANCEL are the same write. -/
theorem ctrlWriteInIdleSetsItsFields : Obligations.CtrlWriteInIdleSetsItsFields := by
  intro d s hidle hstart
  have hcycle : writeCycle (writeCtrl d) s =
      { s with preEn := d[2], diagEn := d[3], repgap := d.extractLsb' 8 4, ports := portsNow s } := by
    rw [writeCycle_idle hidle, writeCtrl_idle_of_no_start hidle hstart]
    rfl
  exact ⟨congrArg _ hcycle, congrArg _ hcycle⟩

/-! ### The reset state -/

/-- In the reset state there is no current event to drive (R38, R218). -/
theorem portsNow_reset : portsNow State.reset = Ports.zero := rfl

/-- Settles O49. Every element is a field of `State.reset`. -/
theorem resetStateIsTheTable : Obligations.ResetStateIsTheTable :=
  ⟨rfl, rfl, rfl, rfl, rfl, rfl, rfl, rfl, rfl, rfl, rfl, rfl, fun _ => rfl, rfl, rfl, rfl, rfl, portsNow_reset⟩

end Sys2Proof.Proofs
end

section
/-! The characters of a message run in the cycle of an accepted START (R25, R64, R150, R244). -/

namespace Sys2Proof.Proofs

open Sys2Proof Sys2Proof.Machine

/-! ### The instruction of a character -/

/-- Every code decodes to the instruction that it encodes (R81, R89). -/
theorem encode_decodeChar (c : Byte) : encode (decodeChar c) = .char8 c := by
  revert c; decide

/-- A character instruction emits its code's events and changes nothing else (R100, R150). -/
theorem exec_of_encode_char8 {i : Instr} {c : Byte} (h : encode i = .char8 c) (s : State) :
    exec i s = .next (emitChar c s) := by
  cases i <;> cases h <;> rfl

theorem exec_decodeChar (c : Byte) (s : State) : exec (decodeChar c) s = .next (emitChar c s) :=
  exec_of_encode_char8 (encode_decodeChar c) s

/-! ### The message and its events -/

theorem length_message (s : State) : s.message.length = s.msgLen.toNat := by
  simp [State.message]

theorem message_getElem? {s : State} {n : Nat} (h : n < s.msgLen.toNat) : s.message[n]? = some (s.msgByte n) := by
  simp [State.message, h]

/-- The events of an accepted START are those of the message (R244, R246). -/
theorem acceptStart_sched (s : State) : (acceptStart s).sched = schedule s.message := by
  rcases acceptStart_cases s with ⟨e, _, h⟩ | ⟨_, h⟩ <;> rw [h]

/-- A START that passes the four checks is accepted, with the CTRL fields of its own write (R243, R244). -/
theorem exec_start_accepted {d : Word} {s : State} (hidle : s.mode = .idle) (hstart : d[0] = true)
    (hvalid : startValid (setCtrlFields d s) = true) :
    exec (.start d) s = .next { acceptStart (setCtrlFields d s) with ports := portsNow s } := by
  have hw : writeCtrl d s s = acceptStart (setCtrlFields d s) := by
    simp [writeCtrl, ctrlStart, startRequest, hidle, hstart, hvalid]
  calc exec (.start d) s
      = .next (writeCycle (writeCtrl d) s) := rfl
    _ = .next { acceptStart (setCtrlFields d s) with ports := portsNow s } := by rw [writeCycle_idle hidle, hw]

/-- Settles O56. Each character's instruction is `emitChar` of its code, and so the message's are a fold of it. -/
theorem startRunsTheCharactersInOrder : Obligations.StartRunsTheCharactersInOrder := by
  intro d s t hidle hstart hcount hticks hlen hgap ht
  have hvalid : startValid (setCtrlFields d s) = true := (startValid_iff _).2 ⟨hcount, hticks, hlen, hgap⟩
  cases (exec_start_accepted hidle hstart hvalid).symm.trans ht
  refine ⟨length_message s, fun n hn => message_getElem? hn, _,
    List.foldl_hom Host.Outcome.next (g₁ := fun u c => emitChar c u) fun u c => exec_decodeChar c u, ?_⟩
  calc (acceptStart (setCtrlFields d s)).sched
      = schedule s.message := acceptStart_sched _
    _ = (s.message.foldl (fun u c => emitChar c u) { s with sched := [] }).sched := by rw [foldl_emitChar]; rfl

end Sys2Proof.Proofs
end

section
/-! The host's accesses as packed words: what the decoder reads from one, and what the encoder packs again (R61, R87, R88). -/

namespace Sys2Proof.Proofs

open Sys2Proof Sys2Proof.Machine

/-- An access is its three fields packed, when the ignored address bits are zero (R61, R87). -/
theorem packAccess_fields {w : BitVec 45} (h : w.extractLsb' 32 2 = 0) :
    packAccess w[44] (w.extractLsb' 34 10) (w.extractLsb' 0 32) = w := by
  have hbit : w[44].toNat = w.toNat / 2 ^ 44 % 2 := by
    rw [BitVec.getElem_eq_testBit_toNat, Nat.toNat_testBit]
  have hlow : w.toNat / 2 ^ 32 % 2 ^ 2 = 0 := by
    simpa [BitVec.extractLsb'_toNat, Nat.shiftRight_eq_div_pow] using congrArg BitVec.toNat h
  apply BitVec.eq_of_toNat_eq
  simp only [packAccess, toNat_append_eq_add, BitVec.toNat_ofBool, BitVec.extractLsb'_toNat, BitVec.toNat_ofNat,
    Nat.shiftRight_eq_div_pow, hbit]
  omega

/-- A mapped offset beyond the registers is one of the message window (R26). -/
theorem le_of_offsetMapped {cfg : Config} {o : BitVec 10} (h : offsetMapped cfg o = true) (hreg : 5 ≤ o.toNat) :
    64 ≤ o.toNat ∧ 4 * o.toNat < 256 + cfg.msgMax := by
  simp only [offsetMapped, Bool.or_eq_true, Bool.and_eq_true, decide_eq_true_eq] at h
  omega

/-- A mapped offset beyond the registers is that of a word of the message RAM (R26, R62). -/
theorem msgWordInRange_of_offsetMapped {cfg : Config} {o : BitVec 10} (h : offsetMapped cfg o = true)
    (hreg : 5 ≤ o.toNat) : msgWordInRange cfg (o - 64) = true := by
  obtain ⟨hlo, hhi⟩ := le_of_offsetMapped h hreg
  have hsub : (o - 64).toNat = o.toNat - 64 := BitVec.toNat_sub_of_le hlo
  rw [msgWordInRange_iff, hsub]
  omega

/-- A word number that is no register's is at least 5 (R26). -/
theorem five_le_of_not_register {n : Nat} (h0 : n ≠ 0) (h1 : n ≠ 1) (h2 : n ≠ 2) (h3 : n ≠ 3) (h4 : n ≠ 4) : 5 ≤ n := by
  omega

/-- What the decoder reads from an access is well formed (R66, R88). -/
theorem decodeHost_wellFormed (cfg : Config) (w : BitVec 45) : (decodeHost cfg w).wellFormed cfg = true := by
  simp only [decodeHost]
  generalize w.extractLsb' 34 10 = o, w.extractLsb' 0 32 = d
  cases w[44] with
  | true =>
    simp only [if_true]
    split
    case h_1 => split_ifs with hstart hcancel <;> simp [Instr.wellFormed, *]
    case h_6 h0 h1 h2 h3 h4 =>
      split_ifs with hmapped
      · exact msgWordInRange_of_offsetMapped hmapped (five_le_of_not_register h0 h1 h2 h3 h4)
      · simp [Instr.wellFormed, hmapped]
    all_goals rfl
  | false =>
    simp only [Bool.false_eq_true, if_false]
    split
    case h_6 h0 h1 h2 h3 h4 =>
      split_ifs with hmapped
      · exact msgWordInRange_of_offsetMapped hmapped (five_le_of_not_register h0 h1 h2 h3 h4)
      · simp [Instr.wellFormed, hmapped]
    all_goals rfl

/-- Encoding a decoded access clears its ignored bits: those of the address, and the data of a read (R61, R87). -/
theorem encode_decodeHost (cfg : Config) (w : BitVec 45) :
    encode (decodeHost cfg w) =
      .host45 (packAccess w[44] (w.extractLsb' 34 10) (if w[44] then w.extractLsb' 0 32 else 0)) := by
  have hregister {o : BitVec 10} {n : Nat} (h : o.toNat = n) : o = BitVec.ofNat 10 n := by
    rw [← h, BitVec.ofNat_toNat, BitVec.setWidth_eq]
  have hwindow (o : BitVec 10) : 64 + (o - 64) = o := by rw [BitVec.add_comm, BitVec.sub_add_cancel]
  simp only [decodeHost]
  generalize w.extractLsb' 34 10 = o, w.extractLsb' 0 32 = d
  cases w[44] with
  | true =>
    simp only [if_true]
    split
    case h_1 ho => rw [hregister ho]; split_ifs <;> rfl
    case h_6 => split_ifs <;> simp only [encode, hwindow]
    all_goals next ho => rw [hregister ho]; rfl
  | false =>
    simp only [Bool.false_eq_true, if_false]
    split
    case h_6 => split_ifs <;> simp only [encode, hwindow]
    all_goals next ho => rw [hregister ho]; rfl

/-- Settles O3. The bits that encoding clears are those that are ignored (`encode_decodeHost`), here zero already. -/
theorem encodeOfDecodedHostAccessIsTheAccess : Obligations.EncodeOfDecodedHostAccessIsTheAccess := by
  intro cfg _ w
  refine ⟨decodeHost_wellFormed cfg w, fun hlow hread => ?_⟩
  have hdata : (if w[44] then w.extractLsb' 0 32 else 0) = w.extractLsb' 0 32 := by
    split_ifs with hw
    · rfl
    · exact (hread (by simpa using hw)).symm
  rw [encode_decodeHost, hdata, packAccess_fields hlow]

end Sys2Proof.Proofs
end

section
/-! The message RAM as the host writes and reads it, and the offsets that are mapped to nothing (R62, R66, R241, R254 to
R256). -/

namespace Sys2Proof.Proofs

open Sys2Proof Sys2Proof.Machine

/-! ### The bytes of the message RAM -/

/-- A written message word is stored little-endian (R62). -/
theorem msgByte_setMsgWord (j : Nat) (d : Word) (s : State) {b : Nat} (hb : b < 4) :
    (State.setMsgWord j d s).msgByte (4 * j + b) = wordByte d b := by
  simp only [State.msgByte, State.setMsgWord, Memory.read?_write]
  interval_cases b <;> simp

/-- A write of a message word leaves the bytes of the other words (R62, R254). -/
theorem msgByte_setMsgWord_other {j a : Nat} (h : a < 4 * j ∨ 4 * j + 4 ≤ a) (d : Word) (s : State) :
    (State.setMsgWord j d s).msgByte a = s.msgByte a := by
  simp only [State.msgByte, State.setMsgWord, Memory.read?_write]
  rw [if_neg (by omega), if_neg (by omega), if_neg (by omega), if_neg (by omega)]

/-- A message word reads back as it was written (R62, R70). -/
theorem msgWord_setMsgWord (j : Nat) (d : Word) (s : State) : (State.setMsgWord j d s).msgWord j = d := by
  have hbyte {b : Nat} (hb : b < 4) := msgByte_setMsgWord j d s hb
  calc (State.setMsgWord j d s).msgWord j
      = wordOfBytes (wordByte d 0) (wordByte d 1) (wordByte d 2) (wordByte d 3) := by
        rw [State.msgWord, hbyte (b := 1) (by decide), hbyte (b := 2) (by decide), hbyte (b := 3) (by decide)]
        exact congrArg (wordOfBytes · _ _ _) (hbyte (b := 0) (by decide))
    _ = d := wordOfBytes_wordByte d

/-! ### Message writes and reads -/

theorem exec_wrMsg (j : BitVec 10) (d : Word) (s : State) :
    exec (.wrMsg j d) s = .next (writeCycle (writeMsg j d) s) := rfl

theorem exec_rdMsg (j : BitVec 10) (s : State) : exec (.rdMsg j) s = .next (readCycle (readMsg s j) s) := rfl

/-- A message write in IDLE stores its word and does nothing else (R254). -/
theorem exec_wrMsg_idle {j : BitVec 10} {s : State} (hidle : s.mode = .idle) (hj : msgWordInRange s.cfg j = true)
    (d : Word) : exec (.wrMsg j d) s = .next { State.setMsgWord j.toNat d s with ports := portsNow s } := by
  rw [exec_wrMsg, writeCycle_idle hidle, writeMsg, if_pos hj, writeIfIdle_idle hidle]

/-- A message write while BUSY, or of a word beyond the RAM, is ignored (R255, R256). -/
theorem exec_wrMsg_ignored {j : BitVec 10} {s : State} (h : s.mode ≠ .idle ∨ msgWordInRange s.cfg j = false) (d : Word) :
    exec (.wrMsg j d) s = .next { machinePart s with ports := portsNow s } := by
  rcases writeMsg_cases j d s (machinePart s) with ⟨hidle, hj, _⟩ | ⟨_, hw⟩
  · simp [hidle, hj] at h
  · rw [exec_wrMsg, writeCycle_eq, hw]

/-- Settles O44. The write is `State.setMsgWord`, so the bytes are those of `msgByte_setMsgWord`. -/
theorem messageWriteStoresFourBytes : Obligations.MessageWriteStoresFourBytes := by
  intro j d s hj hwindow
  have hrange : msgWordInRange s.cfg j = true := (msgWordInRange_iff s.cfg j).2 ⟨hj, hwindow⟩
  refine ⟨fun hidle => ?_, fun hbusy => exec_wrMsg_ignored (.inl hbusy) d⟩
  refine ⟨_, exec_wrMsg_idle hidle hrange d, rfl, fun b hb => msgByte_setMsgWord j.toNat d s hb,
    fun a ha => msgByte_setMsgWord_other ha d s, _, exec_rdMsg j _, ?_⟩
  calc readMsg (State.setMsgWord j.toNat d s) j
      = (State.setMsgWord j.toNat d s).msgWord j.toNat := readMsg_inRange hrange
    _ = d := msgWord_setMsgWord j.toNat d s

/-- Settles O45. An ignored write leaves the cycle to part (a); a read beyond the RAM returns 0. -/
theorem unmappedOffsetsReadZeroAndIgnoreWrites : Obligations.UnmappedOffsetsReadZeroAndIgnoreWrites := by
  intro o d s
  refine ⟨rfl, rfl, fun hbeyond => ?_⟩
  have hrange : msgWordInRange s.cfg o = false := by
    rw [← Bool.not_eq_true, msgWordInRange_iff]
    omega
  refine ⟨exec_wrMsg_ignored (.inr hrange) d, ?_⟩
  rw [exec_rdMsg, readMsg, hrange]
  rfl

end Sys2Proof.Proofs
end

section
/-! Every cycle of a state with the invariant completes: no run puts a reserved record on the output (R86, R90, R240). -/

namespace Sys2Proof.Proofs

open Sys2Proof Sys2Proof.Machine

/-! ### The events that a run emits have instructions -/

/-- The record of an event instruction decodes to it (R86). -/
theorem decodeEvent_pack {i : Instr} {e : Event} (h : eventOfInstr i = some e) : decodeEvent e.pack = .ok i := by
  cases i with
  | evRepgap g =>
    have hrepgap : ∀ g, decodeEvent (repgapEvent g).pack = .ok (.evRepgap g) := by decide
    cases h; exact hrepgap g
  | evDot | evDash | evSymgap | evLettergap | evWordgap | evPreSettle | evPreDot | evPreGap | evPreSep =>
    cases h; rfl
  | _ => cases h

/-- A symbol is keyed by EV_DOT or EV_DASH (R153, R154). -/
theorem eventOfInstr_symbolEvent (s : Symbol) : ∃ i, eventOfInstr i = some (symbolEvent s) := by
  cases s with
  | dot => exact ⟨.evDot, rfl⟩
  | dash => exact ⟨.evDash, rfl⟩

theorem eventOfInstr_of_mem_letterEvents {ss : List Symbol} {e : Event} (h : e ∈ letterEvents ss) :
    ∃ i, eventOfInstr i = some e := by
  fun_induction letterEvents ss with
  | case1 => cases h
  | case2 s =>
    obtain rfl | rfl : e = symbolEvent s ∨ e = lettergapEvent := by simpa using h
    · exact eventOfInstr_symbolEvent s
    · exact ⟨.evLettergap, rfl⟩
  | case3 s rest hrest ih =>
    obtain rfl | rfl | h : e = symbolEvent s ∨ e = symgapEvent ∨ e ∈ letterEvents rest := by simpa using h
    · exact eventOfInstr_symbolEvent s
    · exact ⟨.evSymgap, rfl⟩
    · exact ih h

theorem eventOfInstr_of_mem_schedule {msg : List Byte} {e : Event} (h : e ∈ schedule msg) :
    ∃ i, eventOfInstr i = some e := by
  obtain ⟨c, _, hc⟩ := List.mem_flatMap.1 h
  cases ht : encodeChar c with
  | letter ss => rw [ht] at hc; exact eventOfInstr_of_mem_letterEvents hc
  | wordGap => rw [ht] at hc; obtain rfl := List.mem_singleton.1 hc; exact ⟨.evWordgap, rfl⟩
  | unknown => rw [ht] at hc; cases hc

theorem eventOfInstr_of_mem_preamble {e : Event} (h : e ∈ preamble) : ∃ i, eventOfInstr i = some e := by
  obtain rfl | rfl | rfl | rfl : e = preSettleEvent ∨ e = preDotEvent ∨ e = preGapEvent ∨ e = preSepEvent := by
    revert e; decide
  · exact ⟨.evPreSettle, rfl⟩
  · exact ⟨.evPreDot, rfl⟩
  · exact ⟨.evPreGap, rfl⟩
  · exact ⟨.evPreSep, rfl⟩

/-- The current event of a state with the invariant is that of an instruction, so its record is no reserved one (R90). -/
theorem decodeEvent_of_inv {s : State} (h : s.Inv) (hrun : s.mode = .run) {k : Nat} {e : Event}
    (he : s.eventAt? k = some e) : ∃ i, eventOfInstr i = some e ∧ decodeEvent e.pack = .ok i := by
  have hmem : e ∈ transmitEvents s.count.toNat s.sched s.preEn s.repgap := List.mem_of_getElem? he
  obtain ⟨i, hi⟩ : ∃ i, eventOfInstr i = some e := by
    rcases mem_of_mem_transmitEvents hmem with hpre | hsched | rfl
    · exact eventOfInstr_of_mem_preamble hpre
    · rw [(h.in_run hrun).sched_eq] at hsched
      exact eventOfInstr_of_mem_schedule hsched
    · exact ⟨.evRepgap s.repgap, rfl⟩
  exact ⟨i, hi, decodeEvent_pack hi⟩

/-! ### The cycle of each kind of input -/

theorem step_reset {s : State} (h : s.sample.pins.rst = true) : step s = .next (resetCycle s.sample) := by
  simp [step, h]

/-- A cycle with an access executes what it decodes to (R87, R211, R240). -/
theorem step_access {s : State} {w : BitVec 45} (hrst : s.sample.pins.rst = false)
    (hw : s.sample.pins.access? = some w) : step s = exec (decodeHost s.sample.cfg w) s.sample := by
  simp [step, fetch, decode, hrst, hw]

/-- A cycle without an access executes the event on the output (R211). -/
theorem step_event {s : State} {e : Event} {i : Instr} (hrst : s.sample.pins.rst = false)
    (hw : s.sample.pins.access? = none) (hrun : s.sample.mode = .run) (he : s.sample.eventAt? s.sample.k = some e)
    (hi : decodeEvent e.pack = .ok i) : step s = exec i s.sample := by
  simp [step, fetch, decode, hrst, hw, hrun, he, hi]

/-- A cycle without an access or an event is quiet (R211). -/
theorem step_quiet {s : State} (hrst : s.sample.pins.rst = false) (hw : s.sample.pins.access? = none)
    (he : s.sample.mode = .run → s.sample.eventAt? s.sample.k = none) : step s = .next (quietCycle s.sample) := by
  by_cases hrun : s.sample.mode = .run
  · simp [step, fetch, hrst, hw, hrun, he hrun]
  · simp [step, fetch, hrst, hw, hrun]

/-- Settles O53. Only an event record can be refused, and in RUN the invariant gives it an instruction. -/
theorem everyStepCompletes : Obligations.EveryStepCompletes := by
  intro s hs
  have h := inv_sample hs
  cases hrst : s.sample.pins.rst with
  | true => exact ⟨_, step_reset hrst⟩
  | false =>
    cases hw : s.sample.pins.access? with
    | some w =>
      rw [step_access hrst hw]
      rcases exec_decodeHost_cases s.sample.cfg w s.sample with ⟨_, hread⟩ | ⟨_, _, hwrite⟩
      · exact ⟨_, hread⟩
      · exact ⟨_, hwrite⟩
    | none =>
      by_cases hrun : s.sample.mode = .run
      · obtain ⟨e, he, _⟩ := (h.in_run hrun).current
        obtain ⟨i, hi, hdecode⟩ := decodeEvent_of_inv h hrun he
        exact ⟨_, (step_event hrst hw hrun he hdecode).trans (exec_of_eventOfInstr hi _)⟩
      · exact ⟨_, step_quiet hrst hw fun h => absurd h hrun⟩

end Sys2Proof.Proofs
end

section
/-! LOADMSG: the writes of a host program and the message that they leave (R62, R92, R93). -/

namespace Sys2Proof.Proofs

open Sys2Proof Sys2Proof.Machine

/-! ### Programs in sequence -/

theorem runs_append {p q : HostProgram} {s t u : State} (hp : HostProgram.Runs p s t)
    (hq : HostProgram.Runs q t u) : HostProgram.Runs (p ++ q) s u := by
  induction hp with
  | done => exact hq
  | line hl _ ih => exact .line hl (ih hq)

theorem runs_singleton {l : HostLine} {s t : State} (h : HostLine.Runs l s t) :
    HostProgram.Runs [l] s t :=
  .line h .done

/-! ### The cycle of one write -/

/-- The access of a write line to a word offset (R87, R92). -/
theorem writePins_access? (o : BitVec 10) (d : Word) :
    (writePins (o ++ 0#2) d).access? = some (packAccess true o d) := by
  have hpack : BitVec.ofBool true ++ (o ++ 0#2) ++ d = packAccess true o d := by
    apply BitVec.eq_of_toNat_eq
    simp only [packAccess, toNat_append_eq_add]
    omega
  exact congrArg some hpack

/-- A write line executes what its access decodes to (R92, R211). -/
theorem cycleWith_write (o : BitVec 10) (d : Word) (s : State) :
    cycleWith (writePins (o ++ 0#2) d) s =
      exec (decodeHost s.cfg (packAccess true o d)) { s with pins := writePins (o ++ 0#2) d } := by
  have hsample := cycleWith_sample (writePins (o ++ 0#2) d) s
  have hrun := step_access (s := { s with pending := writePins (o ++ 0#2) d :: s.pending })
    (congrArg (fun t => t.pins.rst) hsample) ((congrArg (fun t => t.pins.access?) hsample).trans (writePins_access? o d))
  rw [hsample] at hrun
  exact hrun

/-- A write line to a word offset takes one cycle, that of its decoded access (R92). -/
theorem wrLine_runs {o : BitVec 10} {d : Word} {s t : State}
    (h : exec (decodeHost s.cfg (packAccess true o d)) { s with pins := writePins (o ++ 0#2) d } = .next t) :
    HostLine.Runs (.wr (o ++ 0#2) d) s t :=
  .wr ((cycleWith_write o d s).trans h)

theorem decodeHost_wrMsgLen (cfg : Config) (d : Word) : decodeHost cfg (packAccess true 3 d) = .wrMsgLen d := by
  simp [decodeHost]

theorem decodeHost_wrMsg {cfg : Config} {j : BitVec 10} (hj : msgWordInRange cfg j = true) (d : Word) :
    decodeHost cfg (packAccess true (64 + j) d) = .wrMsg j d := by
  obtain ⟨hram, hwindow⟩ := (msgWordInRange_iff cfg j).1 hj
  have hnum : (64 + j).toNat = 64 + j.toNat := by
    have h64 : (64 : BitVec 10).toNat = 64 := rfl
    rw [BitVec.toNat_add, h64]; omega
  have hmapped : offsetMapped cfg (64 + j) = true := by
    simp only [offsetMapped, hnum, Bool.or_eq_true, Bool.and_eq_true, decide_eq_true_eq]
    omega
  have hword : 64 + j - 64 = j := by rw [BitVec.add_comm, BitVec.add_sub_cancel]
  simp only [decodeHost, packAccess_write, packAccess_wordNumber, packAccess_data, hmapped, hword, if_true]
  split
  case h_6 => rfl
  all_goals omega

/-! ### The words of a text -/

theorem wordByte_wordOfBytes (f : Nat → Byte) {b : Nat} (hb : b < 4) :
    wordByte (wordOfBytes (f 0) (f 1) (f 2) (f 3)) b = f b := by
  apply BitVec.eq_of_toNat_eq
  rw [wordByte_toNat, wordOfBytes_toNat]
  interval_cases b <;> omega

/-- Byte `b` of word `j` of a text is its byte `4*j + b`, 0x00 past its end (R93). -/
theorem wordByte_textWord (text : List Byte) (j : Nat) {b : Nat} (hb : b < 4) :
    wordByte (textWord text j) b = text.getD (4 * j + b) 0 :=
  wordByte_wordOfBytes (fun b => text.getD (4 * j + b) 0) hb

/-- The write line of word `j` (R93). -/
def textLine (text : List Byte) (j : Nat) : HostLine := .wr (BitVec.ofNat 12 (0x100 + 4 * j)) (textWord text j)

/-- The offset of word `j` in the window is that of word number `64 + j` (R26, R62). -/
theorem textLine_eq (text : List Byte) (j : Nat) :
    textLine text j = .wr ((64 + BitVec.ofNat 10 j) ++ 0#2) (textWord text j) := by
  refine congrArg (HostLine.wr · _) (BitVec.eq_of_toNat_eq ?_)
  refine Eq.trans ?_ (toNat_append_eq_add (64 + BitVec.ofNat 10 j) 0#2).symm
  have h64 : (64 : BitVec 10).toNat = 64 := rfl
  simp only [BitVec.toNat_add, BitVec.toNat_ofNat, h64]
  omega

/-- The line of word `j` writes the word in IDLE, in one cycle (R92, R254). -/
theorem textLine_runs {text : List Byte} {j : Nat} {s : State} (hidle : s.mode = .idle) (hram : 4 * j < s.cfg.msgMax)
    (hwindow : 64 + j < 1024) :
    ∃ pins ports, HostLine.Runs (textLine text j) s
      { State.setMsgWord j (textWord text j) s with pins := pins, ports := ports } := by
  have hnum : (BitVec.ofNat 10 j).toNat = j := by
    rw [BitVec.toNat_ofNat]; omega
  have hrange : msgWordInRange s.cfg (BitVec.ofNat 10 j) = true := by
    rw [msgWordInRange_iff, hnum]; exact ⟨hram, hwindow⟩
  have hexec (pins : Pins) := exec_wrMsg_idle (s := { s with pins := pins }) hidle hrange (textWord text j)
  rw [hnum] at hexec
  rw [textLine_eq]
  exact ⟨_, _, wrLine_runs (by rw [decodeHost_wrMsg hrange]; exact hexec _)⟩

/-! ### The message that the lines leave -/

/-- `t` is `s` with the first `n` words of a text in its message RAM. -/
structure HoldsWords (text : List Byte) (n : Nat) (s t : State) : Prop where
  frame : ∃ msg pins ports, t = { s with msg := msg, pins := pins, ports := ports }
  text_byte : ∀ a, a < 4 * n → t.msgByte a = text.getD a 0
  other_byte : ∀ a, 4 * n ≤ a → t.msgByte a = s.msgByte a

theorem HoldsWords.zero (text : List Byte) (s : State) : HoldsWords text 0 s s where
  frame := ⟨_, _, _, rfl⟩
  text_byte a ha := by omega
  other_byte _ _ := rfl

theorem HoldsWords.mode_eq {text : List Byte} {n : Nat} {s t : State} (h : HoldsWords text n s t) : t.mode = s.mode := by
  obtain ⟨_, _, _, rfl⟩ := h.frame; rfl

theorem HoldsWords.cfg_eq {text : List Byte} {n : Nat} {s t : State} (h : HoldsWords text n s t) : t.cfg = s.cfg := by
  obtain ⟨_, _, _, rfl⟩ := h.frame; rfl

/-- Writing word `n` after the words before it. -/
theorem HoldsWords.setMsgWord {text : List Byte} {n : Nat} {s t : State} (h : HoldsWords text n s t) (pins : Pins)
    (ports : Ports) :
    HoldsWords text (n + 1) s { State.setMsgWord n (textWord text n) t with pins := pins, ports := ports } where
  frame := by
    obtain ⟨_, _, _, rfl⟩ := h.frame
    exact ⟨_, _, _, rfl⟩
  text_byte a ha := by
    by_cases hold : a < 4 * n
    · exact (msgByte_setMsgWord_other (.inl hold) (textWord text n) t).trans (h.text_byte a hold)
    · obtain ⟨b, rfl⟩ := Nat.exists_eq_add_of_le (Nat.le_of_not_lt hold)
      have hb : b < 4 := by omega
      exact (msgByte_setMsgWord n (textWord text n) t hb).trans (wordByte_textWord text n hb)
  other_byte a ha :=
    (msgByte_setMsgWord_other (.inr (by omega)) (textWord text n) t).trans (h.other_byte a (by omega))

/-- The first `n` word lines of a text, run in IDLE, store its first `n` words (R92, R93). -/
theorem textLines_run {text : List Byte} {s : State} (hidle : s.mode = .idle) {n : Nat} (hram : 4 * n ≤ s.cfg.msgMax)
    (hwindow : 64 + n ≤ 1024) :
    ∃ t, HostProgram.Runs ((List.range n).map (textLine text)) s t ∧ HoldsWords text n s t := by
  induction n with
  | zero => exact ⟨s, .done, .zero text s⟩
  | succ n ih =>
    obtain ⟨t, hruns, hholds⟩ := ih (by omega) (by omega)
    obtain ⟨pins, ports, hline⟩ := textLine_runs (text := text) (j := n) (hholds.mode_eq.trans hidle)
      (by rw [hholds.cfg_eq]; omega) (by omega)
    refine ⟨_, ?_, hholds.setMsgWord pins ports⟩
    rw [List.range_succ, List.map_append]
    exact runs_append hruns (runs_singleton hline)

/-- The last line of LOADMSG writes MSG_LEN in IDLE (R93, R252). -/
theorem msgLenLine_runs {s : State} (hidle : s.mode = .idle) (d : Word) :
    ∃ pins ports, HostLine.Runs (.wr 0x00C d) s { s with msgLen := msgLenValue d, pins := pins, ports := ports } := by
  have hexec (pins : Pins) := writeCycle_writeIfIdle_idle (s := { s with pins := pins }) hidle
    fun t => { t with msgLen := msgLenValue d }
  exact ⟨_, _, wrLine_runs (o := 3) (by rw [decodeHost_wrMsgLen, exec_wrMsgLen]; exact congrArg _ (hexec _))⟩

/-- The message is the text when its bytes and its length are (R30, R64). -/
theorem message_eq_of_bytes {s : State} {text : List Byte} (hlen : s.msgLen.toNat = text.length)
    (hbyte : ∀ a, a < text.length → s.msgByte a = text.getD a 0) : s.message = text := by
  refine List.ext_getElem ((length_message s).trans hlen) fun a _ ha => ?_
  simp [State.message, hbyte a ha, ha]

/-- Settles O57. Induction on the words of the text, then the write of MSG_LEN. -/
theorem loadMsgStoresTheText : Obligations.LoadMsgStoresTheText := by
  refine ⟨fun s text hinv hidle hfits => ⟨by simp [loadMsg], ?_⟩, by decide⟩
  obtain ⟨hmul, _, hmax, _⟩ := hinv.build_legal
  have hlen : (msgLenValue (BitVec.ofNat 32 text.length)).toNat = text.length := by
    rw [msgLenValue_toNat, BitVec.toNat_ofNat]; omega
  obtain ⟨t, hwords, hholds⟩ := textLines_run (text := text) hidle (n := (text.length + 3) / 4) (by omega) (by omega)
  obtain ⟨pins, ports, hline⟩ := msgLenLine_runs (hholds.mode_eq.trans hidle) (BitVec.ofNat 32 text.length)
  have hruns : HostProgram.Runs (loadMsg text) s _ := runs_append hwords (runs_singleton hline)
  refine ⟨_, hruns, ?_, hlen, fun a hend hlast => ?_, hholds.other_byte, ?_⟩
  · exact message_eq_of_bytes hlen fun a ha => hholds.text_byte a (by omega)
  · exact (hholds.text_byte a hlast).trans (List.getD_eq_default _ _ hend)
  · obtain ⟨_, _, _, rfl⟩ := hholds.frame; rfl

end Sys2Proof.Proofs
end

section
/-! The codec: what the encoder makes of an instruction is what the decoder reads back (R80 to R88, R91). -/

namespace Sys2Proof.Proofs

open Sys2Proof Sys2Proof.Machine

/-! ### Character codes -/

/-- The decoder names a character code as the encoder does (R81, R103). -/
theorem decodeChar_of_encode {i : Instr} {c : Byte} (h : encode i = .char8 c) : decodeChar c = i := by
  cases i with
  | charUnknown00_1F low | charUnknown22_23 low | charUnknown24_27 low | charUnknown28_2F low | charUnknown3A_3B low
  | charUnknown3C_3F low | charUnknown5C_5F low | charUnknown7C_7F low | charUnknown80_FF low =>
    cases h; revert low; decide
  | _ => cases h <;> rfl

/-! ### Event records -/

/-- An event record is the packed event of its instruction (R85, R86). -/
theorem eventOfInstr_of_encode {i : Instr} {r : BitVec 9} (h : encode i = .event9 r) :
    ∃ e, eventOfInstr i = some e ∧ e.pack = r := by
  cases i with
  | evDot | evDash | evSymgap | evLettergap | evWordgap | evPreSettle | evPreDot | evPreGap | evPreSep | evRepgap =>
    cases h; exact ⟨_, rfl, rfl⟩
  | _ => cases h

theorem decodeEvent_of_encode {i : Instr} {r : BitVec 9} (h : encode i = .event9 r) : decodeEvent r = .ok i := by
  obtain ⟨e, he, rfl⟩ := eventOfInstr_of_encode h
  exact decodeEvent_pack he

/-- A record with the KIND of REPGAP and LEVEL OFF is that of the REPGAP with its UNITS (R85, R191). -/
theorem pack_repgapEvent_units {w : BitVec 9} (hkind : w.extractLsb' 5 4 = 10) (hlevel : w[0] = false) :
    (repgapEvent (w.extractLsb' 1 4)).pack = w := by
  revert w; decide

/-- A record that decodes is the packed event of the instruction that it decodes to (R86). -/
theorem pack_of_decodeEvent {w : BitVec 9} {i : Instr} (h : decodeEvent w = .ok i) :
    ∃ e, eventOfInstr i = some e ∧ e.pack = w := by
  have hfixed : ∀ row ∈ fixedEventRecords, (eventOfInstr row.2).map Event.pack = some row.1 := by decide
  simp only [decodeEvent] at h
  split at h
  next row hrow =>
    cases h
    obtain rfl : row.1 = w := by simpa using List.find?_some hrow
    exact Option.map_eq_some_iff.1 (hfixed row (List.mem_of_find?_eq_some hrow))
  next =>
    split_ifs at h with hkind hlevel
    cases h
    exact ⟨_, rfl, pack_repgapEvent_units hkind (by simpa using hlevel)⟩

/-- The nine fixed records and REPGAP use the KIND codes 1 to 10 only, so every other KIND is reserved (R86). -/
theorem decodeEvent_reserved {w : BitVec 9} (h : w.extractLsb' 5 4 = 0 ∨ 11 ≤ (w.extractLsb' 5 4).toNat) :
    decodeEvent w = .error .reservedKind := by
  have hfixed : ∀ row ∈ fixedEventRecords, row.1.extractLsb' 5 4 ≠ 0 ∧ (row.1.extractLsb' 5 4).toNat < 11 := by decide
  have hnone : fixedEventRecords.find? (fun row => row.1 == w) = none := by
    rw [List.find?_eq_none]
    intro row hrow heq
    obtain rfl : row.1 = w := by simpa using heq
    obtain ⟨hzero, hlt⟩ := hfixed row hrow
    exact h.elim hzero (Nat.not_le_of_lt hlt)
  have hrepgap : w.extractLsb' 5 4 ≠ 10 := by
    intro hk
    rw [hk] at h
    revert h; decide
  simp only [decodeEvent, hnone]
  rw [if_neg hrepgap, if_pos (h.imp_right Nat.lt_of_succ_le)]

/-- Settles O4. Each direction goes through `Event.pack`; the reserved kinds are those that no row of R86 has. -/
theorem eventRecordsDecodeToTheirEvents : Obligations.EventRecordsDecodeToTheirEvents :=
  ⟨fun _ _ => decodeEvent_pack, fun _ _ => pack_of_decodeEvent, fun _ => decodeEvent_reserved⟩

/-! ### Host accesses -/

/-- A word number that is no register's is one of the message window or unmapped, and the decoder says which (R88). -/
theorem decodeHost_read_of_not_register (cfg : Config) {o : BitVec 10} (h : 5 ≤ o.toNat) (d : Word) :
    decodeHost cfg (packAccess false o d) = if offsetMapped cfg o then .rdMsg (o - 64) else .rdUnmapped o := by
  simp only [decodeHost, packAccess_write, packAccess_wordNumber]
  split
  · contradiction
  · split
    case h_6 => rfl
    all_goals omega

/-- The same of a write, which keeps its data (R88). -/
theorem decodeHost_write_of_not_register (cfg : Config) {o : BitVec 10} (h : 5 ≤ o.toNat) (d : Word) :
    decodeHost cfg (packAccess true o d) = if offsetMapped cfg o then .wrMsg (o - 64) d else .wrUnmapped o d := by
  simp only [decodeHost, packAccess_write, packAccess_wordNumber, packAccess_data, if_true]
  split
  case h_6 => rfl
  all_goals omega

/-- The five registers are mapped (R26). -/
theorem five_le_of_not_offsetMapped {cfg : Config} {o : BitVec 10} (h : offsetMapped cfg o = false) : 5 ≤ o.toNat := by
  simp only [offsetMapped, Bool.or_eq_false_iff, decide_eq_false_iff_not] at h
  omega

/-- The word number of a message word of the RAM is that of no register, and is mapped (R26, R62). -/
theorem wordNumber_of_msgWordInRange {cfg : Config} {j : BitVec 10} (h : msgWordInRange cfg j = true) :
    5 ≤ (64 + j).toNat ∧ offsetMapped cfg (64 + j) = true ∧ 64 + j - 64 = j := by
  obtain ⟨hram, hwindow⟩ := (msgWordInRange_iff cfg j).1 h
  have h64 : (64 : BitVec 10).toNat = 64 := rfl
  have hnum : (64 + j).toNat = 64 + j.toNat := by rw [BitVec.toNat_add, h64]; omega
  refine ⟨by omega, ?_, by rw [BitVec.add_comm, BitVec.add_sub_cancel]⟩
  simp only [offsetMapped, hnum, Bool.or_eq_true, Bool.and_eq_true, decide_eq_true_eq]
  omega

/-- A write of offset 0x000 is named by its action bits, START before CANCEL (R88, log entry 5). -/
theorem decodeHost_writeCtrl (cfg : Config) (d : Word) :
    decodeHost cfg (packAccess true 0 d) = if d[0] then .start d else if d[1] then .cancel d else .wrCtrl d := by
  simp [decodeHost]

/-- The decoder names a host access as the encoder does, among the well-formed instructions (R88). -/
theorem decodeHost_of_encode {cfg : Config} {i : Instr} {w : BitVec 45} (hwf : i.wellFormed cfg = true)
    (h : encode i = .host45 w) : decodeHost cfg w = i := by
  cases i with
  | rdRegCtrl | rdRegStatus | rdRegCount | rdRegMsgLen | rdRegUnitTicks | wrStatus | wrCount | wrMsgLen | wrUnitTicks =>
    cases h; simp [decodeHost]
  | wrCtrl d | start d | cancel d =>
    cases h
    rw [decodeHost_writeCtrl]
    simp_all [Instr.wellFormed]
  | rdMsg j =>
    cases h
    obtain ⟨hreg, hmapped, hword⟩ := wordNumber_of_msgWordInRange hwf
    rw [decodeHost_read_of_not_register cfg hreg, if_pos hmapped, hword]
  | wrMsg j d => cases h; exact decodeHost_wrMsg hwf d
  | rdUnmapped o =>
    cases h
    have hunmapped : offsetMapped cfg o = false := by simpa [Instr.wellFormed] using hwf
    rw [decodeHost_read_of_not_register cfg (five_le_of_not_offsetMapped hunmapped), hunmapped]
    rfl
  | wrUnmapped o d =>
    cases h
    have hunmapped : offsetMapped cfg o = false := by simpa [Instr.wellFormed] using hwf
    rw [decodeHost_write_of_not_register cfg (five_le_of_not_offsetMapped hunmapped), hunmapped]
    rfl
  | _ => cases h

/-- Settles O2. One lemma for each of the three frames; only host accesses need well-formedness. -/
theorem decodeOfEncodeIsTheInstruction : Obligations.DecodeOfEncodeIsTheInstruction := by
  intro cfg _ i hwf
  cases h : encode i with
  | char8 c => exact congrArg Except.ok (decodeChar_of_encode h)
  | event9 r => exact decodeEvent_of_encode h
  | host45 w => exact congrArg Except.ok (decodeHost_of_encode hwf h)

/-! ### Words of the opcode table -/

/-- Settles O1, word by word, by running the decoder. -/
theorem tableWordsDecodeToTheirInstructions : Obligations.TableWordsDecodeToTheirInstructions := by
  unfold Obligations.TableWordsDecodeToTheirInstructions
  decide

end Sys2Proof.Proofs
end

section
/-! The instruction that a cycle runs, and what it drives and emits (R85 to R88, R100, R211, R218, R219, R257). -/

namespace Sys2Proof.Proofs

open Sys2Proof Sys2Proof.Machine

/-! ### The outputs of a RUN cycle -/

/-- In RUN the output has the level of the current event (R218). -/
theorem portsWith_run_led {s : State} (hrun : s.mode = .run) (e : Event) :
    (portsWith s (some e)).led = decide (e.level = .on) := by
  simp [portsWith, hrun]

/-- In RUN the keyer claims the pin (R219). -/
theorem portsWith_run_ledOwn {s : State} (hrun : s.mode = .run) (cur : Option Event) :
    (portsWith s cur).ledOwn = true := by
  simp [portsWith, hrun]

/-- In the first cycle of an event the tap gives its record when DIAG_EN is set (R257). -/
theorem portsWith_tap {s : State} {e : Event} (hrun : s.mode = .run)
    (h : s.ticksLeft = eventTicks s e ∧ s.diagEn = true) :
    (portsWith s (some e)).diagValid = true ∧ (portsWith s (some e)).diagLevel = decide (e.level = .on) ∧
      (portsWith s (some e)).diagUnits = e.units ∧ (portsWith s (some e)).diagKind = e.kind.code := by
  simp [portsWith, firstCycleOf, hrun, h]

/-- In every other cycle the tap is all zeros (R257, R259). -/
theorem portsWith_tap_zero {s : State} {e : Event} (h : ¬ (s.ticksLeft = eventTicks s e ∧ s.diagEn = true)) :
    (portsWith s (some e)).diagValid = false ∧ (portsWith s (some e)).diagLevel = false ∧
      (portsWith s (some e)).diagUnits = 0 ∧ (portsWith s (some e)).diagKind = 0 := by
  have htap : (firstCycleOf s e && s.diagEn) = false := by
    rw [firstCycleOf, Bool.and_assoc, ← Bool.not_eq_true]
    simp only [Bool.and_eq_true, decide_eq_true_eq]
    exact fun hall => h hall.2
  simp [portsWith, htap]

/-- Settles O20. The cycle drives `portsWith` of the instruction's event (`exec_of_eventOfInstr`). -/
theorem eventInstructionDrivesItsEvent : Obligations.EventInstructionDrivesItsEvent := by
  intro i e s hi hrun
  exact ⟨eventCycle e s, exec_of_eventOfInstr hi s, portsWith_run_led hrun e, portsWith_run_ledOwn hrun _,
    by simp [eventCycle, portsWith, hrun], by simp [eventCycle, portsWith, State.busy, hrun], rfl,
    portsWith_tap hrun, portsWith_tap_zero⟩

/-- Settles O15, by listing the eight events. -/
theorem preambleIsEightFixedEvents : Obligations.PreambleIsEightFixedEvents :=
  ⟨rfl, rfl, rfl, rfl⟩

/-! ### The instruction of a cycle -/

/-- Settles O11. The instruction of a code emits the code's token (`exec_decodeChar`). -/
theorem everyCharacterCodeRunsItsLookup : Obligations.EveryCharacterCodeRunsItsLookup :=
  exec_decodeChar

/-- Settles O36. The meanings of the three names are the one write `writeCtrl`. -/
theorem ctrlWriteHasOneMeaningUnderItsThreeNames : Obligations.CtrlWriteHasOneMeaningUnderItsThreeNames :=
  fun _ _ => ⟨rfl, rfl⟩

/-- Settles O54. The build that the decoder reads is not sampled. -/
theorem stepRunsTheHostAccess : Obligations.StepRunsTheHostAccess := by
  intro s w hrst hw
  have hcfg : s.sample.cfg = s.cfg := by simp [sample_frame]
  exact ⟨rfl, hcfg ▸ step_access hrst hw⟩

/-- Sampling the inputs changes no event (R25, R35). -/
theorem sample_eventAt? (s : State) (i : Nat) : s.sample.eventAt? i = s.eventAt? i :=
  eventAt?_congr (by simp [sample_frame]) (by simp [sample_frame]) (by simp [sample_frame]) (by simp [sample_frame]) i

/-- Settles O55. Sampling leaves the mode, `k` and the events, so the event fetched is the one at `k`. -/
theorem stepRunsTheEventOnTheOutput : Obligations.StepRunsTheEventOnTheOutput := by
  intro s e i hrun hrst hvalid he hi
  have hnone : s.sample.pins.access? = none := by simp [Pins.access?, hvalid]
  have hmode : s.sample.mode = .run := by simp [sample_frame, hrun]
  have hevent : s.sample.eventAt? s.sample.k = some e := by
    rw [sample_eventAt?, show s.sample.k = s.k by simp [sample_frame]]
    exact he
  exact step_event hrst hnone hmode hevent hi

end Sys2Proof.Proofs
end

section
/-! The start-up sequence: the settings that its lines leave, the START, and the poll to the end of the run (R190, R222,
R226, R241, R304 to R306). -/

namespace Sys2Proof.Proofs

open Sys2Proof Sys2Proof.Machine

/-! ### The lines of a program keep the invariant -/

theorem inv_cycleWith {p : Pins} {s t : State} (hs : s.Inv) (h : cycleWith p s = .next t) : t.Inv :=
  everyStepKeepsTheInvariant _ t (inv_of_unread_fields hs s.pins s.ports (p :: s.pending) s.cancelPend) h

theorem inv_of_lineRuns {l : HostLine} {s t : State} (h : HostLine.Runs l s t) (hs : s.Inv) : t.Inv := by
  induction h with
  | wr hcycle | rd hcycle | pollEnd hcycle _ => exact inv_cycleWith hs hcycle
  | nopEnd => exact hs
  | nopCycle hcycle _ ih | pollAgain hcycle _ _ ih => exact ih (inv_cycleWith hs hcycle)

theorem inv_of_programRuns {p : HostProgram} {s t : State} (h : HostProgram.Runs p s t) (hs : s.Inv) : t.Inv := by
  induction h with
  | done => exact hs
  | line hline _ ih => exact ih (inv_of_lineRuns hline hs)

/-! ### The lines that write the settings -/

theorem decodeHost_wrCount (cfg : Config) (d : Word) : decodeHost cfg (packAccess true 2 d) = .wrCount d := by
  simp [decodeHost]

theorem decodeHost_wrUnitTicks (cfg : Config) (d : Word) : decodeHost cfg (packAccess true 4 d) = .wrUnitTicks d := by
  simp [decodeHost]

/-- The low half of a word holds the COUNT that was put there (R29). -/
theorem countValue_setWidth (count : BitVec 16) : countValue (count.setWidth 32) = count := by
  apply BitVec.eq_of_toNat_eq
  rw [countValue_toNat, BitVec.toNat_setWidth]
  omega

/-- The COUNT line of the start-up sequence, run in IDLE (R251, R304). -/
theorem countLine_runs {s : State} (hidle : s.mode = .idle) (count : BitVec 16) :
    ∃ pins ports, HostLine.Runs (.wr 0x008 (count.setWidth 32)) s { s with count := count, pins := pins, ports := ports } := by
  have hexec (pins : Pins) := writeCycle_writeIfIdle_idle (s := { s with pins := pins }) hidle
    fun t => { t with count := countValue (count.setWidth 32) }
  simp only [countValue_setWidth] at hexec
  exact ⟨_, _, wrLine_runs (o := 2) (by
    rw [decodeHost_wrCount, exec_wrCount, countValue_setWidth]; exact congrArg _ (hexec _))⟩

/-- The UNIT_TICKS line of the start-up sequence, run in IDLE (R253, R304). -/
theorem unitTicksLine_runs {s : State} (hidle : s.mode = .idle) (ticks : Word) :
    ∃ pins ports, HostLine.Runs (.wr 0x010 ticks) s { s with unitTicks := ticks, pins := pins, ports := ports } := by
  have hexec (pins : Pins) := writeCycle_writeIfIdle_idle (s := { s with pins := pins }) hidle
    fun t => { t with unitTicks := ticks }
  exact ⟨_, _, wrLine_runs (o := 4) (by rw [decodeHost_wrUnitTicks, exec_wrUnitTicks]; exact congrArg _ (hexec _))⟩

/-! ### The START line -/

theorem startWord_start (g : BitVec 4) (diag pre : Bool) : (startWord g diag pre)[0] = true := by
  revert g diag pre; decide

/-- The fields of the START word are the settings that it was made of (R27, R304). -/
theorem setCtrlFields_startWord (g : BitVec 4) (diag pre : Bool) (s : State) :
    setCtrlFields (startWord g diag pre) s = { s with preEn := pre, diagEn := diag, repgap := g } := by
  have hfields : ∀ (g : BitVec 4) (diag pre : Bool), ctrlPreEn (startWord g diag pre) = pre ∧
      ctrlDiagEn (startWord g diag pre) = diag ∧ ctrlRepgap (startWord g diag pre) = g := by decide
  obtain ⟨hpre, hdiag, hgap⟩ := hfields g diag pre
  rw [setCtrlFields, hpre, hdiag, hgap]

/-- The START line, run in IDLE with legal settings, is an accepted START (R243, R244, R304). -/
theorem startLine_runs {s : State} {g : BitVec 4} (hidle : s.mode = .idle) (hcount : 1 ≤ s.count.toNat)
    (hticks : 1 ≤ s.unitTicks.toNat) (hlen : s.msgLen.toNat ≤ s.cfg.msgMax) (hgap : 7 ≤ g.toNat) (diag pre : Bool) :
    ∃ pins ports, HostLine.Runs (.wr 0x000 (startWord g diag pre)) s
      { acceptStart { s with pins := pins, preEn := pre, diagEn := diag, repgap := g } with ports := ports } := by
  have hdecode : decodeHost s.cfg (packAccess true 0 (startWord g diag pre)) = .start (startWord g diag pre) := by
    simp [decodeHost, startWord_start]
  have hexec (pins : Pins) := exec_start_accepted (s := { s with pins := pins }) hidle (startWord_start g diag pre)
  simp only [setCtrlFields_startWord] at hexec
  exact ⟨_, _, wrLine_runs (o := 0) (hdecode ▸ hexec _ ((startValid_iff _).2 ⟨hcount, hticks, hlen, hgap⟩))⟩

/-! ### The state after START -/

/-- The state after an accepted START: the first event is on the output with its whole duration, or, where there is none,
the keyer is in END with cause OK (R222, R244, R246). -/
def StartsRun (s : State) : Prop :=
  s.cancelPend = false ∧
  ((∃ e, s.events[0]? = some e ∧ s.mode = .run ∧ s.k = 0 ∧ s.ticksLeft = eventTicks s e) ∨
   (s.events = [] ∧ s.mode = .ending ∧ s.done = true ∧ s.cause = .ok))

theorem startsRun_acceptStart (s : State) (ports : Ports) : StartsRun { acceptStart s with ports := ports } := by
  rcases acceptStart_cases s with ⟨e, he, h⟩ | ⟨he, h⟩ <;> rw [h]
  · exact ⟨rfl, .inl ⟨e, he, rfl, rfl, rfl⟩⟩
  · exact ⟨rfl, .inr ⟨List.eq_nil_of_length_eq_zero (Nat.le_zero.1 (List.getElem?_eq_none_iff.1 he)), rfl, rfl, rfl⟩⟩

/-! ### The settings of a start-up sequence -/

/-- `t` still has what the run of `s` is made of: its settings, its message and its events (R255). -/
structure KeepsRun (s t : State) : Prop where
  msgLen : t.msgLen = s.msgLen
  msg : t.msg = s.msg
  epoch : t.epoch = s.epoch
  sched : t.sched = s.sched
  count : t.count = s.count
  unitTicks : t.unitTicks = s.unitTicks
  repgap : t.repgap = s.repgap
  diagEn : t.diagEn = s.diagEn
  preEn : t.preEn = s.preEn
  pending : t.pending = s.pending

theorem KeepsRun.trans {s t u : State} (h : KeepsRun s t) (h' : KeepsRun t u) : KeepsRun s u where
  msgLen := h'.msgLen.trans h.msgLen
  msg := h'.msg.trans h.msg
  epoch := h'.epoch.trans h.epoch
  sched := h'.sched.trans h.sched
  count := h'.count.trans h.count
  unitTicks := h'.unitTicks.trans h.unitTicks
  repgap := h'.repgap.trans h.repgap
  diagEn := h'.diagEn.trans h.diagEn
  preEn := h'.preEn.trans h.preEn
  pending := h'.pending.trans h.pending

/-- `t` has the settings of a start-up sequence that ran from `s`, and the inputs that waited there still wait. -/
structure HasSettings (text : List Byte) (count : BitVec 16) (ticks : Word) (g : BitVec 4) (diag pre : Bool)
    (s t : State) : Prop where
  message_eq : t.message = text
  sched_eq : t.sched = schedule text
  count_eq : t.count = count
  unitTicks_eq : t.unitTicks = ticks
  repgap_eq : t.repgap = g
  diagEn_eq : t.diagEn = diag
  preEn_eq : t.preEn = pre
  pending_eq : t.pending = s.pending

section Settings

variable {text : List Byte} {count : BitVec 16} {ticks : Word} {g : BitVec 4} {diag pre : Bool}

/-- The events of a run are `transmit` of its settings (R190). -/
theorem HasSettings.events_eq {s t : State} (h : HasSettings text count ticks g diag pre s t) :
    t.events = transmit count.toNat text pre g := by
  rw [State.events, h.count_eq, h.sched_eq, h.preEn_eq, h.repgap_eq, transmit]

/-- The settings are among what a run keeps. -/
theorem HasSettings.of_keepsRun {s m t : State} (h : HasSettings text count ticks g diag pre s m) (ht : KeepsRun m t) :
    HasSettings text count ticks g diag pre s t where
  message_eq := (message_congr ht.msgLen ht.msg ht.epoch).trans h.message_eq
  sched_eq := ht.sched.trans h.sched_eq
  count_eq := ht.count.trans h.count_eq
  unitTicks_eq := ht.unitTicks.trans h.unitTicks_eq
  repgap_eq := ht.repgap.trans h.repgap_eq
  diagEn_eq := ht.diagEn.trans h.diagEn_eq
  preEn_eq := ht.preEn.trans h.preEn_eq
  pending_eq := ht.pending.trans h.pending_eq

/-- The lines up to START leave the settings and start the run (R93, R222, R304). -/
theorem startLines_run {s : State} (hs : s.Inv) (hidle : s.mode = .idle) (hfits : text.length ≤ s.cfg.msgMax)
    (hcount : 1 ≤ count.toNat) (hticks : 1 ≤ ticks.toNat) (hgap : 7 ≤ g.toNat) :
    ∃ m, HostProgram.Runs (startLines text count ticks g diag pre) s m ∧
      HasSettings text count ticks g diag pre s m ∧ StartsRun m := by
  obtain ⟨_, t, hload, htext, hlen, _, _, hframe⟩ := loadMsgStoresTheText.1 s text hs hidle hfits
  have hidle' : t.mode = .idle := by rw [hframe]; exact hidle
  have hfits' : t.msgLen.toNat ≤ t.cfg.msgMax := by rw [hlen, hframe]; exact hfits
  have hpending : t.pending = s.pending := by rw [hframe]
  obtain ⟨_, _, hcountLine⟩ := countLine_runs hidle' count
  obtain ⟨pins, ports, hticksLine⟩ := unitTicksLine_runs (s := { t with count := count, pins := _, ports := _ }) hidle' ticks
  obtain ⟨pins', ports', hstartLine⟩ := startLine_runs
    (s := { t with count := count, unitTicks := ticks, pins := pins, ports := ports }) hidle' hcount hticks hfits' hgap diag pre
  refine ⟨_, runs_append hload (.line hcountLine (.line hticksLine (.line hstartLine .done))), ?_,
    startsRun_acceptStart _ ports'⟩
  have hstart := acceptStart_frame { t with
    count := count, unitTicks := ticks, pins := pins', ports := ports, preEn := pre, diagEn := diag, repgap := g }
  exact {
    message_eq := (message_congr hstart.msgLen hstart.msg hstart.epoch).trans htext
    sched_eq := (acceptStart_sched _).trans (congrArg schedule htext)
    count_eq := hstart.count
    unitTicks_eq := hstart.unitTicks
    repgap_eq := hstart.repgap
    diagEn_eq := hstart.diagEn
    preEn_eq := hstart.preEn
    pending_eq := hstart.pending.trans hpending }

end Settings

/-! ### A run that nothing disturbs -/

/-- A cycle of a run with no driver failure and no cancellation goes on to a state with one cycle less to go, or ends the
run OK (R213, R214, R226). -/
theorem machinePart_undisturbed {s : State} (hs : s.Inv) (hrun : s.mode = .run) (hfault : s.pins.drvFault = false)
    (hcancel : s.cancelPend = false) :
    ((machinePart s).mode = .run ∧ (machinePart s).remainingCycles + 1 = s.remainingCycles) ∨
    machinePart s = finish .ok s := by
  obtain ⟨e, he, hpos, _⟩ := (hs.in_run hrun).current
  rw [machinePart_run hrun]
  rcases runStep_cases s with ⟨hf, _⟩ | ⟨_, hlt, h⟩ | ⟨_, hlast, h⟩ | ⟨_, hzero, _⟩
  · cases hfault.symm.trans hf
  · rw [h]
    refine .inl ⟨hrun, ?_⟩
    have hticks : (s.ticksLeft - 1).toNat + 1 = s.ticksLeft.toNat := by bv_omega
    calc (s.ticksLeft - 1).toNat + s.unitTicks.toNat * totalUnits (s.events.drop (s.k + 1)) + 1
        = s.ticksLeft.toNat + s.unitTicks.toNat * totalUnits (s.events.drop (s.k + 1)) := by omega
      _ = s.remainingCycles := rfl
  · rcases boundary_cases s with ⟨_, _, hc, _⟩ | ⟨n, hn, _, hb⟩ | ⟨_, hb⟩
    · cases hcancel.symm.trans hc
    · rw [h, hb]
      refine .inl ⟨hrun, ?_⟩
      obtain ⟨hidx, hget⟩ := List.getElem?_eq_some_iff.1 hn
      have hdrop : s.events.drop (s.k + 1) = n :: s.events.drop (s.k + 1 + 1) := by
        rw [List.drop_eq_getElem_cons hidx, hget]
      have hone : s.ticksLeft.toNat = 1 := by rw [hlast]; rfl
      calc (eventTicks s n).toNat + s.unitTicks.toNat * totalUnits (s.events.drop (s.k + 1 + 1)) + 1
          = 1 + s.unitTicks.toNat * (n.units.toNat + totalUnits (s.events.drop (s.k + 1 + 1))) := by
            rw [eventTicks_toNat]; ring
        _ = s.remainingCycles := by rw [State.remainingCycles, hdrop, totalUnits_cons, hone]
    · exact .inr (h.trans hb)
  · rw [hzero] at hpos; cases hpos

/-! ### The poll of STATUS -/

/-- STATUS bit 0 is BUSY (R28). -/
theorem statusWord_busy (s : State) : statusWord s &&& 0x1 = 0x0 ↔ s.mode = .idle := by
  rw [← BitVec.toNat_inj, BitVec.toNat_and]
  have hbit : (statusWord s).toNat &&& (0x1 : Word).toNat = (decide (s.mode ≠ .idle)).toNat := by
    refine (Nat.and_one_is_mod _).trans ?_
    have hlt := (decide (s.mode ≠ .idle)).toNat_lt
    rw [statusWord_toNat]
    omega
  rw [hbit]
  by_cases h : s.mode = .idle <;> simp [h]

/-- IDLE after a run that ended OK reads as STATUS 0x12 (R28, R270, R306). -/
theorem statusWord_ended {s : State} (hidle : s.mode = .idle) (hdone : s.done = true) (hcause : s.cause = .ok) :
    statusWord s = 0x12 := by
  apply BitVec.eq_of_toNat_eq
  rw [statusWord_toNat, hidle, hdone, hcause]
  rfl

/-- The access of a STATUS read (R87). -/
theorem readPins_status_access? : (readPins 0x004).access? = some (packAccess false 1 0) := by decide

/-- One cycle of the poll: a read of STATUS (R241, R304). -/
def pollCycle (s : State) : State := readCycle (statusWord s) { s with pins := readPins 0x004 }

theorem cycleWith_readStatus (s : State) : cycleWith (readPins 0x004) s = .next (pollCycle s) := by
  have hsample := cycleWith_sample (readPins 0x004) s
  have hstep := step_access (s := { s with pending := readPins 0x004 :: s.pending })
    (congrArg (fun t => t.pins.rst) hsample) ((congrArg (fun t => t.pins.access?) hsample).trans readPins_status_access?)
  have hdecode : decodeHost s.cfg (packAccess false 1 0) = .rdRegStatus := by simp [decodeHost]
  rw [hsample] at hstep
  rw [cycleWith, hstep, hdecode]
  rfl

/-- A read changes no state, and part (a) none of these fields (R65, R211). -/
theorem keepsRun_pollCycle (s : State) : KeepsRun s (pollCycle s) :=
  let h := machinePart_frame { s with pins := readPins 0x004 }
  ⟨h.msgLen, h.msg, h.epoch, h.sched, h.count, h.unitTicks, h.repgap, h.diagEn, h.preEn, h.pending⟩

/-- The poll from `s` ends in `t`: IDLE after a run that ended OK, with a STATUS read that says so (R305, R306). -/
structure PollEndsOk (s t : State) : Prop where
  runs : HostLine.Runs awaitEnd s t
  keeps : KeepsRun s t
  idle : t.mode = .idle
  done_set : t.done = true
  cause_ok : t.cause = .ok
  status_read : t.ports.hRdata = 0x12

/-- While BUSY the poll reads again (R92, R305). -/
theorem PollEndsOk.again {s t : State} (hbusy : s.mode ≠ .idle) (h : PollEndsOk (pollCycle s) t) : PollEndsOk s t :=
  { h with
    runs := .pollAgain (cycleWith_readStatus s) (mt (statusWord_busy s).1 hbusy) h.runs
    keeps := (keepsRun_pollCycle s).trans h.keeps }

/-- In IDLE the poll ends with its first read (R92). -/
theorem pollEndsOk_idle {s : State} (hidle : s.mode = .idle) (hdone : s.done = true) (hcause : s.cause = .ok) :
    PollEndsOk s (pollCycle s) :=
  have hpart := machinePart_idle (s := { s with pins := readPins 0x004 }) hidle
  { runs := .pollEnd (cycleWith_readStatus s) ((statusWord_busy s).2 hidle)
    keeps := keepsRun_pollCycle s
    idle := (congrArg State.mode hpart).trans hidle
    done_set := (congrArg State.done hpart).trans hdone
    cause_ok := (congrArg State.cause hpart).trans hcause
    status_read := statusWord_ended hidle hdone hcause }

/-- In END the poll ends with its second read, in IDLE (R215). -/
theorem pollEndsOk_ending {s : State} (hend : s.mode = .ending) (hdone : s.done = true) (hcause : s.cause = .ok) :
    PollEndsOk s (pollCycle (pollCycle s)) :=
  have hpart := machinePart_ending (s := { s with pins := readPins 0x004 }) hend
  .again (by simp [hend]) (pollEndsOk_idle (congrArg State.mode hpart) ((congrArg State.done hpart).trans hdone)
    ((congrArg State.cause hpart).trans hcause))

/-- In RUN, with no cancellation pending, the poll ends after the run does: one read less to go in each cycle (R226). -/
theorem exists_pollEndsOk_run {s : State} (hs : s.Inv) (hrun : s.mode = .run) (hcancel : s.cancelPend = false) :
    ∃ t, PollEndsOk s t := by
  have hbusy : s.mode ≠ .idle := by simp [hrun]
  have hpins : State.Inv { s with pins := readPins 0x004 } := inv_of_unread_fields hs _ s.ports s.pending s.cancelPend
  rcases machinePart_undisturbed hpins hrun rfl hcancel with ⟨hrun', hless⟩ | hpart
  · have hcancel' := (machinePart_frame { s with pins := readPins 0x004 }).cancelPend.trans hcancel
    obtain ⟨t, ht⟩ := exists_pollEndsOk_run (s := pollCycle s) (inv_cycleWith hs (cycleWith_readStatus s)) hrun' hcancel'
    exact ⟨t, ht.again hbusy⟩
  · exact ⟨_, .again hbusy (pollEndsOk_ending (congrArg State.mode hpart) (congrArg State.done hpart)
      (congrArg State.cause hpart))⟩
termination_by s.remainingCycles
decreasing_by exact Nat.lt_of_succ_le (Nat.le_of_eq hless)

/-! ### The whole sequence -/

/-- A run that START began ends OK under the poll. -/
theorem StartsRun.exists_pollEndsOk {m : State} (h : StartsRun m) (hm : m.Inv) : ∃ t, PollEndsOk m t := by
  obtain ⟨hcancel, ⟨e, _, hrun, _, _⟩ | ⟨_, hend, hdone, hcause⟩⟩ := h
  · exact exists_pollEndsOk_run hm hrun hcancel
  · exact ⟨_, pollEndsOk_ending hend hdone hcause⟩

/-- The first event of a run is on the output in the cycle after START, with its whole duration (R218, R222). -/
theorem StartsRun.first_event {m : State} (h : StartsRun m) {e : Event} (he : m.events[0]? = some e) :
    m.mode = .run ∧ m.k = 0 ∧ m.ticksLeft.toNat = e.units.toNat * m.unitTicks.toNat ∧
      (portsNow m).led = decide (e.level = .on) ∧ (portsNow m).ledOwn = true := by
  obtain ⟨_, ⟨e', he', hrun, hk, hticks⟩ | ⟨hnil, _⟩⟩ := h
  · obtain rfl : e' = e := Option.some.inj (he'.symm.trans he)
    have hports : portsNow m = portsWith m (some e') := by rw [portsNow, hk]; exact congrArg (portsWith m) he'
    rw [hports, hticks, eventTicks_toNat]
    exact ⟨hrun, hk, rfl, portsWith_run_led hrun e', portsWith_run_ledOwn hrun _⟩
  · simp [hnil] at he

theorem StartsRun.ending_of_empty {m : State} (h : StartsRun m) (hnil : m.events = []) : m.mode = .ending := by
  obtain ⟨_, ⟨e, he, _⟩ | ⟨_, hend, _⟩⟩ := h
  · simp [hnil] at he
  · exact hend

/-- Settles O58. The lines before START store the settings, START begins the run, and the poll follows it to its end by
induction on the cycles that the run still has to go (`exists_pollEndsOk_run`). -/
theorem startUpSequenceSendsTheMessage : Obligations.StartUpSequenceSendsTheMessage := by
  intro s text count ticks g diag pre hs hidle hfits hcount hticks hgap
  obtain ⟨m, hruns, hset, hstarts⟩ := startLines_run (diag := diag) (pre := pre) hs hidle hfits hcount hticks hgap
  obtain ⟨t, ht⟩ := hstarts.exists_pollEndsOk (inv_of_programRuns hruns hs)
  have hpoll := runs_singleton ht.runs
  have hset' := hset.of_keepsRun ht.keeps
  refine ⟨m, t, hruns, hset.events_eq, fun e he => ?_, hstarts.ending_of_empty, hpoll, runs_append hruns hpoll,
    ht.idle, ht.done_set, ht.cause_ok, ht.status_read, hset'.events_eq.trans hset.events_eq.symm, hset'.message_eq,
    hset'.count_eq, hset'.unitTicks_eq, hset'.repgap_eq, hset'.diagEn_eq, hset'.preEn_eq, hset'.pending_eq⟩
  exact hset.unitTicks_eq ▸ hstarts.first_event he

end Sys2Proof.Proofs
end

section
/-! The encoder: case folding, the words of the ROM and the token of each (R82 to R84, R100 to R103, R142). -/

namespace Sys2Proof.Proofs

open Sys2Proof Sys2Proof.Machine

/-! ### Case folding (R101) -/

theorem fold_of_lowercase {c : Byte} (h : 0x61 ≤ c.toNat ∧ c.toNat ≤ 0x7A) : fold c = c - 0x20 :=
  if_pos h

theorem fold_of_not_lowercase {c : Byte} (h : ¬ (0x61 ≤ c.toNat ∧ c.toNat ≤ 0x7A)) : fold c = c :=
  if_neg h

/-- A folded code is not a lowercase letter, so it folds no further. -/
theorem fold_fold (c : Byte) : fold (fold c) = fold c := by
  by_cases h : 0x61 ≤ c.toNat ∧ c.toNat ≤ 0x7A
  · rw [fold_of_lowercase h]
    exact fold_of_not_lowercase (by bv_omega)
  · rw [fold_of_not_lowercase h, fold_of_not_lowercase h]

/-- Folding gives letters only, so it makes no space. -/
theorem fold_eq_space_iff (c : Byte) : fold c = 0x20 ↔ c = 0x20 := by
  by_cases h : 0x61 ≤ c.toNat ∧ c.toNat ≤ 0x7A
  · rw [fold_of_lowercase h]
    bv_omega
  · rw [fold_of_not_lowercase h]

/-! ### The token of a ROM word (R83, R84) -/

theorem decodeRom_eq_unknown_iff (w : Byte) : decodeRom w = some .unknown ↔ w.extractLsb' 5 3 = 0 := by
  rw [← BitVec.toNat_inj]
  simp only [decodeRom]
  split_ifs with h0 h7 h6
  · exact iff_of_true rfl h0
  · exact iff_of_false nofun h0
  · exact iff_of_false nofun h0
  · exact iff_of_false nofun h0

theorem decodeRom_eq_wordGap_iff (w : Byte) : decodeRom w = some .wordGap ↔ w.extractLsb' 5 3 = 7 := by
  rw [← BitVec.toNat_inj]
  simp only [decodeRom]
  split_ifs with h0 h7 h6
  · exact iff_of_false nofun fun h7 => absurd (h0.symm.trans h7) (by decide)
  · exact iff_of_true rfl h7
  · exact iff_of_false nofun h7
  · exact iff_of_false nofun h7

/-- The reserved word (R83, R90). -/
theorem decodeRom_of_len_six {w : Byte} (h : w.extractLsb' 5 3 = 6) : decodeRom w = none := by
  simp [decodeRom, h]

/-- A letter's word has LEN symbols, and LEN is not 0 (R83, R84). -/
theorem length_of_decodeRom {w : Byte} {ss : List Symbol} (h : decodeRom w = some (.letter ss)) :
    1 ≤ ss.length ∧ ss.length = (w.extractLsb' 5 3).toNat := by
  simp only [decodeRom] at h
  split_ifs at h with h0 h7 h6
  · cases h
  · cases h
  · cases h
    rw [List.length_map, List.length_range]
    exact ⟨Nat.one_le_iff_ne_zero.2 h0, rfl⟩

/-! ### The words of the ROM (R102, R142) -/

theorem rom_ne_zero_iff (a : Byte) :
    rom a ≠ 0 ↔ a = 0x20 ∨ (0x30 ≤ a.toNat ∧ a.toNat ≤ 0x39) ∨ (0x41 ≤ a.toNat ∧ a.toNat ≤ 0x5A) := by
  revert a; decide

theorem rom_len_ne_six (a : Byte) : (rom a).extractLsb' 5 3 ≠ 6 := by
  intro h
  have hsome := decodeRom_rom_isSome a
  rw [decodeRom_of_len_six h] at hsome
  cases hsome

theorem rom_len_eq_zero_iff (a : Byte) : (rom a).extractLsb' 5 3 = 0 ↔ rom a = 0 := by
  revert a; decide

theorem rom_len_eq_seven_iff (a : Byte) : (rom a).extractLsb' 5 3 = 7 ↔ a = 0x20 := by
  revert a; decide

/-- The addresses of the nonzero words. -/
def nonzeroAddresses : List Nat := (List.range 256).filter (fun a => rom (BitVec.ofNat 8 a) ≠ 0)

theorem length_romWords : romWords.length = 256 := by
  simp only [romWords, romBlankRow, List.length_append, List.length_replicate, List.length_cons, List.length_nil]

theorem map_rom_range : (List.range 256).map (fun a => rom (BitVec.ofNat 8 a)) = romWords := by
  refine List.ext_getElem (by rw [List.length_map, List.length_range, length_romWords]) fun n _ hn => ?_
  have hlt : n < 256 := length_romWords ▸ hn
  simp [rom, Nat.mod_eq_of_lt hlt, hn]

theorem map_rom_nonzeroAddresses :
    nonzeroAddresses.map (fun a => rom (BitVec.ofNat 8 a)) = romWords.filter (· ≠ 0) := by
  rw [← map_rom_range, List.filter_map]
  rfl

theorem length_nonzeroAddresses : nonzeroAddresses.length = 37 := by
  have hwords : (romWords.filter (· ≠ 0)).length = 37 := by decide
  rw [← hwords, ← map_rom_nonzeroAddresses, List.length_map]

theorem mem_nonzeroAddresses {a : Byte} (h : rom a ≠ 0) : a.toNat ∈ nonzeroAddresses := by
  simpa [nonzeroAddresses, a.isLt] using h

/-- The table's nonzero words are all different, so a nonzero word tells its address. -/
theorem rom_injective {a b : Byte} (ha : rom a ≠ 0) (hab : rom a = rom b) : a = b := by
  have hwords : (romWords.filter (· ≠ 0)).Nodup := by decide
  rw [← map_rom_nonzeroAddresses] at hwords
  exact BitVec.eq_of_toNat_eq <| List.inj_on_of_nodup_map hwords (mem_nonzeroAddresses ha)
    (mem_nonzeroAddresses (hab ▸ ha)) (by simpa using hab)

/-- Settles O12. The words are those of R102's table, and a letter's length is its LEN field for every word. -/
theorem romHoldsThirtySevenDistinctWords : Obligations.RomHoldsThirtySevenDistinctWords := by
  refine ⟨length_nonzeroAddresses, rom_ne_zero_iff, rom_len_ne_six, fun _ _ => rom_injective, fun a ss h => ?_⟩
  obtain ⟨hpos, hlen⟩ := length_of_decodeRom h
  exact ⟨hpos, length_le_five_of_decodeRom h, hlen⟩

/-! ### The token of a character (R100, R103, R104, R141) -/

theorem encodeChar_of_rom {c a w : Byte} {t : Token} (hfold : fold c = a) (hrom : rom a = w)
    (hword : decodeRom w = some t) : encodeChar c = t := by
  subst hfold hrom
  exact Option.some.inj ((decodeRom_rom_fold c).symm.trans hword)

/-- The encoder reads the folded code only (R100, R101). -/
theorem encodeChar_of_fold {c u : Byte} (h : fold c = u) : encodeChar c = encodeChar u := by
  subst h
  simp only [encodeChar, fold_fold]

theorem encodeChar_eq_unknown_iff (c : Byte) : encodeChar c = .unknown ↔ rom (fold c) = 0 := by
  rw [← rom_len_eq_zero_iff, ← decodeRom_eq_unknown_iff, decodeRom_rom_fold, Option.some_inj]

theorem encodeChar_eq_wordGap_iff (c : Byte) : encodeChar c = .wordGap ↔ c = 0x20 := by
  rw [← fold_eq_space_iff, ← rom_len_eq_seven_iff, ← decodeRom_eq_wordGap_iff, decodeRom_rom_fold, Option.some_inj]

theorem encodeChar_space : encodeChar 0x20 = .wordGap := (encodeChar_eq_wordGap_iff _).2 rfl

end Sys2Proof.Proofs
end

section
/-! The rules of the characters: the events of each and the effect of its instruction (R103 to R141, R157, R158). -/

namespace Sys2Proof.Proofs

open Sys2Proof Sys2Proof.Machine

/-! ### The instruction of a character, by its token -/

/-- A character's instruction appends its token's events and changes nothing else (R100, R150). -/
theorem exec_of_encodeChar {i : Instr} {c : Byte} {t : Token} (hcode : encode i = .char8 c) (ht : encodeChar c = t)
    (s : State) : exec i s = .next { s with sched := s.sched ++ tokenEvents t } := by
  subst ht
  exact exec_of_encode_char8 hcode s

theorem exec_of_fold {i : Instr} {c u : Byte} (hcode : encode i = .char8 c) (hfold : fold c = u) (s : State) :
    exec i s = .next { s with sched := s.sched ++ tokenEvents (encodeChar u) } :=
  exec_of_encodeChar hcode (encodeChar_of_fold hfold) s

theorem exec_of_unknown {i : Instr} {c : Byte} (hcode : encode i = .char8 c) (hc : encodeChar c = .unknown) (s : State) :
    exec i s = .next s := by
  rw [exec_of_encodeChar hcode hc, tokenEvents_unknown, List.append_nil]

/-- A row of UNKNOWN codes whose low bits are the operand (R103). -/
theorem exec_of_unknown_row {n : Nat} {row : BitVec n → Instr} {block : Byte}
    (hcode : ∀ low, encode (row low) = .char8 (unknownCode block low))
    (hc : ∀ low : BitVec n, encodeChar (unknownCode block low) = .unknown) (s : State) (low : BitVec n) :
    exec (row low) s = .next s :=
  exec_of_unknown (hcode low) (hc low) s

/-! ### Lowercase letters (R141) -/

theorem schedule_map_fold (msg : List Byte) : schedule (msg.map fold) = schedule msg := by
  induction msg with
  | nil => rfl
  | cons c msg ih => rw [List.map_cons, schedule_cons, schedule_cons, ih, encodeChar_of_fold (c := c) rfl]

/-- Settles O8. Folding a lowercase code gives its uppercase letter, and the encoder reads the folded code only. -/
theorem lowercaseLettersRunAsUppercase : Obligations.LowercaseLettersRunAsUppercase := by
  refine ⟨fun c hlo hhi => encodeChar_of_fold (fold_of_lowercase ⟨hlo, hhi⟩), fun msg => (schedule_map_fold msg).symm,
    rfl, fun s => ?_⟩
  and_intros
  all_goals exact exec_of_fold rfl (by decide) s

/-! ### The space (R104, R157) -/

theorem schedule_space_cons (msg : List Byte) : schedule (0x20 :: msg) = wordgapEvent :: schedule msg := by
  rw [schedule_cons, encodeChar_space, tokenEvents_wordGap, List.singleton_append]

/-- Settles O9. Only the word at 0x20 has LEN = 7, and folding makes no space. -/
theorem spaceEmitsOneWordGap : Obligations.SpaceEmitsOneWordGap := by
  refine ⟨rfl, encodeChar_eq_wordGap_iff, exec_of_encodeChar rfl encodeChar_space, fun m n => ?_, fun m n => ?_⟩
  · rw [schedule_append, schedule_append, schedule_space_cons, schedule_nil]
  · rw [schedule_append, schedule_append, schedule_space_cons, schedule_space_cons, schedule_nil]

/-! ### UNKNOWN characters (R103, R158) -/

theorem schedule_of_unknown_between {c : Byte} (hc : encodeChar c = .unknown) (m n : List Byte) :
    schedule (m ++ [c] ++ n) = schedule (m ++ n) := by
  simp [schedule_append, hc]

theorem schedule_of_all_unknown {msg : List Byte} (h : ∀ c ∈ msg, encodeChar c = .unknown) : schedule msg = [] :=
  List.flatMap_eq_nil_iff.2 fun c hc => by rw [h c hc, tokenEvents_unknown]

/-- Settles O10. UNKNOWN is the token of a zero word, and the ROM's nonzero words stand at the space, the digits and the
letters only. -/
theorem unknownCharactersEmitNothing : Obligations.UnknownCharactersEmitNothing := by
  refine ⟨fun c => ?_, fun c hc => ⟨(encodeChar_eq_unknown_iff c).1 hc, schedule_of_unknown_between hc⟩,
    fun _ => schedule_of_all_unknown, ?_, fun s => ?_⟩
  · rw [encodeChar_eq_unknown_iff, ← rom_ne_zero_iff, not_not]
  · exact schedule_of_unknown_between (by decide) [0x41] [0x42]
  · exact ⟨exec_of_unknown_row (fun _ => rfl) (by decide) s, exec_of_unknown rfl (by decide) s,
      exec_of_unknown_row (fun _ => rfl) (by decide) s, exec_of_unknown_row (fun _ => rfl) (by decide) s,
      exec_of_unknown_row (fun _ => rfl) (by decide) s, exec_of_unknown_row (fun _ => rfl) (by decide) s,
      exec_of_unknown_row (fun _ => rfl) (by decide) s, exec_of_unknown rfl (by decide) s,
      exec_of_unknown rfl (by decide) s, exec_of_unknown_row (fun _ => rfl) (by decide) s,
      exec_of_unknown rfl (by decide) s, exec_of_unknown rfl (by decide) s,
      exec_of_unknown_row (fun _ => rfl) (by decide) s, exec_of_unknown_row (fun _ => rfl) (by decide) s⟩

/-! ### Letters and digits (R105 to R140) -/

/-- The whole rule of a LETTER follows from its code: that it and its lowercase code fold to it, its ROM word, the symbols and
events of that word, and the instruction that the code encodes. -/
theorem letterRule_of_word {code word : Byte} {symbols : List Symbol} {lower : Option Byte} {events : List Event}
    {units : Nat} {i : Instr} (hfold : fold code = code) (hlower : ∀ a ∈ lower, fold a = code) (hrom : rom code = word)
    (hword : decodeRom word = some (.letter symbols)) (hevents : letterEvents symbols = events)
    (hunits : totalUnits events = units) (hcode : encode i = .char8 code) :
    LetterRule code word symbols lower events units i := by
  subst hevents
  have htoken : ∀ {c}, fold c = code → encodeChar c = .letter symbols := fun h => encodeChar_of_rom h hrom hword
  exact
    { rom_word := hrom
      token := htoken hfold
      lower_alias := fun a ha => ⟨hlower a ha, htoken (hlower a ha)⟩
      events_eq := by simp [htoken hfold]
      size := ⟨length_letterEvents symbols, hunits⟩
      decoded := decodeChar_of_encode hcode
      runs := exec_of_encodeChar hcode (htoken hfold) }

/-- Settles O5, letter by letter from its ROM word (`letterRule_of_word`). -/
theorem lettersAToLEmitTheirCodes : Obligations.LettersAToLEmitTheirCodes := by
  unfold Obligations.LettersAToLEmitTheirCodes
  and_intros
  all_goals exact letterRule_of_word rfl (by decide) rfl rfl rfl rfl rfl

/-- Settles O6, letter by letter from its ROM word (`letterRule_of_word`). -/
theorem lettersMToXEmitTheirCodes : Obligations.LettersMToXEmitTheirCodes := by
  unfold Obligations.LettersMToXEmitTheirCodes
  and_intros
  all_goals exact letterRule_of_word rfl (by decide) rfl rfl rfl rfl rfl

/-- Settles O7, letter by letter from its ROM word (`letterRule_of_word`). -/
theorem lettersYZAndDigitsEmitTheirCodes : Obligations.LettersYZAndDigitsEmitTheirCodes := by
  unfold Obligations.LettersYZAndDigitsEmitTheirCodes
  and_intros
  all_goals exact letterRule_of_word rfl (by decide) rfl rfl rfl rfl rfl

end Sys2Proof.Proofs
end

section
/-! The rules of the scheduler: the shape of every scheduled message and its sizes (R161, R162). -/

namespace Sys2Proof.Proofs

open Sys2Proof Sys2Proof.Machine

/-! ### The shape of the events of a token and of a message (R161) -/

/-- What may follow an event: after an ON event only a SYMGAP or a LETTERGAP (R161). -/
def GapFollowsOn (a b : Event) : Prop := a.level = .on → b = symgapEvent ∨ b = lettergapEvent

theorem gapFollowsOn_of_off {a : Event} (h : a.level = .off) (b : Event) : GapFollowsOn a b :=
  fun hon => by cases h.symm.trans hon

theorem isChain_letterEvents (ss : List Symbol) : (letterEvents ss).IsChain GapFollowsOn := by
  fun_induction letterEvents ss with
  | case1 => exact .nil
  | case2 s => exact List.isChain_pair.2 fun _ => .inr rfl
  | case3 s rest hrest ih =>
    exact .cons_cons (fun _ => .inl rfl) (ih.cons fun b _ => gapFollowsOn_of_off rfl b)

theorem isChain_tokenEvents (t : Token) : (tokenEvents t).IsChain GapFollowsOn := by
  cases t with
  | letter ss => exact isChain_letterEvents ss
  | wordGap => exact .singleton _
  | unknown => exact .nil

/-- A SYMGAP follows every symbol but the last, and a LETTERGAP the last (R152). -/
theorem letterEvents_concat (ss : List Symbol) (last : Symbol) :
    letterEvents (ss ++ [last]) =
      ss.flatMap (fun s => [symbolEvent s, symgapEvent]) ++ [symbolEvent last, lettergapEvent] := by
  induction ss with
  | nil => rfl
  | cons s ss ih =>
    cases ss with
    | nil => rfl
    | cons t ss =>
      rw [List.cons_append, List.cons_append, letterEvents_cons_cons, ← List.cons_append, ih]
      rfl

theorem getLast?_tokenEvents {t : Token} {e : Event} (h : (tokenEvents t).getLast? = some e) :
    e = lettergapEvent ∨ e = wordgapEvent := by
  cases t with
  | letter ss =>
    obtain rfl | ⟨init, last, rfl⟩ := List.eq_nil_or_concat' ss
    · cases h
    · rw [tokenEvents_letter, letterEvents_concat, List.getLast?_append] at h
      cases h
      exact .inl rfl
  | wordGap => cases h; exact .inr rfl
  | unknown => cases h

/-- A message's events end as those of the last character that emits any do. -/
theorem getLast?_schedule {msg : List Byte} {e : Event} (h : (schedule msg).getLast? = some e) :
    e = lettergapEvent ∨ e = wordgapEvent := by
  induction msg with
  | nil => cases h
  | cons c msg ih =>
    rw [schedule_cons, List.getLast?_append, Option.or_eq_some_iff] at h
    obtain h | ⟨-, h⟩ := h
    · exact ih h
    · exact getLast?_tokenEvents h

theorem off_of_terminator {e : Event} (h : e = lettergapEvent ∨ e = wordgapEvent) : e.level = .off := by
  rcases h with rfl | rfl <;> rfl

/-- Each token ends OFF, so nothing is asked of the event where the next token begins. -/
theorem isChain_schedule (msg : List Byte) : (schedule msg).IsChain GapFollowsOn := by
  induction msg with
  | nil => exact .nil
  | cons c msg ih =>
    rw [schedule_cons]
    exact (isChain_tokenEvents _).append ih fun a ha b _ =>
      gapFollowsOn_of_off (off_of_terminator (getLast?_tokenEvents ha)) b

/-- An ON event is not the last one, and the next one is its gap (R161). -/
theorem gap_after_on {msg : List Byte} {n : Nat} {a : Event} (ha : (schedule msg)[n]? = some a) (hon : a.level = .on) :
    ∃ b, (schedule msg)[n + 1]? = some b ∧ (b = symgapEvent ∨ b = lettergapEvent) := by
  cases hb : (schedule msg)[n + 1]? with
  | some b =>
    obtain ⟨hn, rfl⟩ := List.getElem?_eq_some_iff.1 hb
    obtain ⟨_, rfl⟩ := List.getElem?_eq_some_iff.1 ha
    exact ⟨_, rfl, (isChain_schedule msg).getElem n hn hon⟩
  | none =>
    have hlt := (List.getElem?_eq_some_iff.1 ha).1
    have hn : (schedule msg).length - 1 = n := by
      have := List.getElem?_eq_none_iff.1 hb
      omega
    have hlast : (schedule msg).getLast? = some a := by rw [List.getLast?_eq_getElem?, hn, ha]
    cases hon.symm.trans (off_of_terminator (getLast?_schedule hlast))

/-- A symbol is keyed by a DOT or a DASH (R153, R154). -/
theorem symbolEvent_eq (s : Symbol) : symbolEvent s = dotEvent ∨ symbolEvent s = dashEvent := by
  cases s with
  | dot => exact .inl rfl
  | dash => exact .inr rfl

theorem dot_or_dash_of_mem_letterEvents {ss : List Symbol} {e : Event} (h : e ∈ letterEvents ss)
    (hon : e.level = .on) : e = dotEvent ∨ e = dashEvent := by
  fun_induction letterEvents ss with
  | case1 => cases h
  | case2 s =>
    obtain rfl | rfl : e = symbolEvent s ∨ e = lettergapEvent := by simpa using h
    · exact symbolEvent_eq s
    · cases hon
  | case3 s rest hrest ih =>
    obtain rfl | rfl | h : e = symbolEvent s ∨ e = symgapEvent ∨ e ∈ letterEvents rest := by simpa using h
    · exact symbolEvent_eq s
    · cases hon
    · exact ih h

theorem off_of_mem_tokenEvents {t : Token} (ht : t = .wordGap ∨ t = .unknown) {e : Event} (h : e ∈ tokenEvents t) :
    e.level = .off := by
  rcases ht with rfl | rfl
  · obtain rfl := List.mem_singleton.1 h; rfl
  · cases h

theorem dot_or_dash_of_mem_schedule {msg : List Byte} {e : Event} (h : e ∈ schedule msg) (hon : e.level = .on) :
    e = dotEvent ∨ e = dashEvent := by
  obtain ⟨c, _, hc⟩ := List.mem_flatMap.1 h
  cases ht : encodeChar c with
  | letter ss => rw [ht] at hc; exact dot_or_dash_of_mem_letterEvents hc hon
  | wordGap => cases hon.symm.trans (off_of_mem_tokenEvents (.inl ht) hc)
  | unknown => cases hon.symm.trans (off_of_mem_tokenEvents (.inr ht) hc)

/-- The ROM holds no letter without symbols (R84, R142). -/
theorem ne_nil_of_encodeChar {c : Byte} {ss : List Symbol} (h : encodeChar c = .letter ss) : ss ≠ [] :=
  List.length_pos_iff.1 (length_of_decodeRom (h ▸ decodeRom_rom_fold c)).1

/-- Settles O13. No ON events are adjacent because the event after an ON one is its gap, which is OFF. -/
theorem everyOnEventIsFollowedByItsGap : Obligations.EveryOnEventIsFollowedByItsGap := by
  refine fun msg => ⟨fun n a b ha hb ⟨haon, hbon⟩ => ?_, fun n a => gap_after_on, fun hne => ?_,
    fun e => dot_or_dash_of_mem_schedule, fun c _ ss hc => ?_, fun c _ hc e => off_of_mem_tokenEvents hc⟩
  · obtain ⟨b', hb', hgap⟩ := gap_after_on ha haon
    obtain rfl : b = b' := Option.some.inj (hb.symm.trans hb')
    rcases hgap with rfl | rfl <;> cases hbon
  · have hlast := List.getLast?_eq_some_getLast hne
    exact ⟨_, hlast, getLast?_schedule hlast⟩
  · obtain rfl | ⟨init, last, rfl⟩ := List.eq_nil_or_concat' ss
    · exact absurd rfl (ne_nil_of_encodeChar hc)
    · refine ⟨init.flatMap fun s => [symbolEvent s, symgapEvent], last, List.getLast?_concat, ?_⟩
      rw [hc, tokenEvents_letter, letterEvents_concat]

/-! ### The sizes of a token and of a message (R162) -/

theorem onUnits_cons_of_on {e : Event} (h : e.level = .on) (es : List Event) :
    onUnits (e :: es) = e.units.toNat + onUnits es := by
  simp [onUnits, h]

theorem onUnits_cons_of_off {e : Event} (h : e.level = .off) (es : List Event) : onUnits (e :: es) = onUnits es := by
  simp [onUnits, h]

theorem level_symbolEvent (s : Symbol) : (symbolEvent s).level = .on := by
  cases s <;> rfl

/-- A DASH is ON two units longer than a DOT (R153, R154). -/
theorem units_symbolEvent_add_count (s : Symbol) (ss : List Symbol) :
    (symbolEvent s).units.toNat + 2 * ss.count .dash = 1 + 2 * (s :: ss).count .dash := by
  cases s with
  | dot => rfl
  | dash =>
    have hunits : (symbolEvent .dash).units.toNat = 3 := rfl
    rw [List.count_cons_self, hunits]
    omega

/-- Each symbol takes its own units and its gap's one, and the LETTERGAP two more than a SYMGAP. -/
theorem totalUnits_letterEvents {ss : List Symbol} (h : ss ≠ []) :
    totalUnits (letterEvents ss) = 2 * ss.length + 2 * ss.count .dash + 2 := by
  fun_induction letterEvents ss with
  | case1 => exact absurd rfl h
  | case2 s => cases s <;> rfl
  | case3 s rest hrest ih =>
    have hsymgap : symgapEvent.units.toNat = 1 := rfl
    have hsymbol := units_symbolEvent_add_count s rest
    rw [totalUnits_cons, totalUnits_cons, ih hrest, hsymgap, List.length_cons]
    omega

theorem onUnits_letterEvents (ss : List Symbol) : onUnits (letterEvents ss) = ss.length + 2 * ss.count .dash := by
  fun_induction letterEvents ss with
  | case1 => rfl
  | case2 s => cases s <;> rfl
  | case3 s rest hrest ih =>
    have hsymbol := units_symbolEvent_add_count s rest
    rw [onUnits_cons_of_on (level_symbolEvent s), onUnits_cons_of_off rfl, ih, List.length_cons]
    omega

/-- A size that adds up over appended lists is, for a message, the sum over its characters (R162). -/
theorem size_schedule_eq_sum {size : List Event → Nat} (hnil : size [] = 0)
    (happend : ∀ a b, size (a ++ b) = size a + size b) (msg : List Byte) :
    size (schedule msg) = (msg.map fun c => size (tokenEvents (encodeChar c))).sum := by
  induction msg with
  | nil => exact hnil
  | cons c msg ih => rw [schedule_cons, happend, ih, List.map_cons, List.sum_cons]

/-- Settles O14. The sizes of a LETTER are by induction on its symbols, and each size adds up over the characters. -/
theorem scheduleSizesAreThoseOfItsTokens : Obligations.ScheduleSizesAreThoseOfItsTokens := by
  refine ⟨fun ss hss => ⟨length_letterEvents ss, totalUnits_letterEvents hss, onUnits_letterEvents ss⟩, rfl, rfl, rfl,
    fun msg => ⟨size_schedule_eq_sum rfl (fun _ _ => List.length_append) msg,
      size_schedule_eq_sum totalUnits_nil totalUnits_append msg,
      size_schedule_eq_sum onUnits_nil onUnits_append msg⟩, ?_⟩
  decide

end Sys2Proof.Proofs
end

section
/-! The preamble in the event sequence of a run (R181, R182, R190). -/

namespace Sys2Proof.Proofs

open Sys2Proof Sys2Proof.Machine

/-! ### The events of a message -/

/-- The events that the scheduler emits for tokens (R153 to R157). -/
def tokenEventRecords : List Event := [dotEvent, dashEvent, symgapEvent, lettergapEvent, wordgapEvent]

theorem symbolEvent_mem_tokenEventRecords (s : Symbol) : symbolEvent s ∈ tokenEventRecords := by
  cases s <;> decide

theorem mem_tokenEventRecords_of_mem_letterEvents {ss : List Symbol} {e : Event} (h : e ∈ letterEvents ss) :
    e ∈ tokenEventRecords := by
  fun_induction letterEvents ss with
  | case1 => cases h
  | case2 s =>
    obtain rfl | rfl : e = symbolEvent s ∨ e = lettergapEvent := by simpa using h
    · exact symbolEvent_mem_tokenEventRecords s
    · decide
  | case3 s rest hrest ih =>
    obtain rfl | rfl | h : e = symbolEvent s ∨ e = symgapEvent ∨ e ∈ letterEvents rest := by simpa using h
    · exact symbolEvent_mem_tokenEventRecords s
    · decide
    · exact ih h

theorem mem_tokenEventRecords_of_mem_tokenEvents {t : Token} {e : Event} (h : e ∈ tokenEvents t) :
    e ∈ tokenEventRecords := by
  cases t with
  | letter ss => exact mem_tokenEventRecords_of_mem_letterEvents h
  | wordGap => obtain rfl := List.mem_singleton.1 h; decide
  | unknown => cases h

theorem mem_tokenEventRecords_of_mem_schedule {msg : List Byte} {e : Event} (h : e ∈ schedule msg) :
    e ∈ tokenEventRecords := by
  obtain ⟨c, _, hc⟩ := List.mem_flatMap.1 h
  exact mem_tokenEventRecords_of_mem_tokenEvents hc

/-! ### A run with and without the preamble -/

/-- PRE_EN puts the preamble before the events of the run, and changes nothing else (R181). -/
theorem transmitEvents_succ_true (n : Nat) (sched : List Event) (g : BitVec 4) :
    transmitEvents (n + 1) sched true g = preamble ++ transmitEvents (n + 1) sched false g := by
  simp [transmitEvents_succ]

/-- With one more REPGAP before it, a run without the preamble is the same block at every repetition (R190). -/
theorem repgapEvent_cons_transmitEvents_succ_false (n : Nat) (sched : List Event) (g : BitVec 4) :
    repgapEvent g :: transmitEvents (n + 1) sched false g =
      (List.replicate (n + 1) (repgapEvent g :: sched)).flatten := by
  simp [transmitEvents_succ, List.replicate_succ]

theorem mem_of_mem_transmitEvents_succ_false {n : Nat} {sched : List Event} {g : BitVec 4} {e : Event}
    (h : e ∈ transmitEvents (n + 1) sched false g) : e = repgapEvent g ∨ e ∈ sched := by
  have hblocks : e ∈ (List.replicate (n + 1) (repgapEvent g :: sched)).flatten :=
    repgapEvent_cons_transmitEvents_succ_false n sched g ▸ List.mem_cons_of_mem _ h
  obtain ⟨block, hblock, he⟩ := List.mem_flatten.1 hblocks
  obtain rfl := List.eq_of_mem_replicate hblock
  exact List.mem_cons.1 he

/-- Settles O16. Without PRE_EN a run holds only REPGAPs and events of tokens, and none of these has a kind of the
preamble. -/
theorem preambleIsSentOnceAtTheStart : Obligations.PreambleIsSentOnceAtTheStart := by
  intro count msg g hcount
  obtain ⟨n, rfl⟩ : ∃ n, count = n + 1 := ⟨count - 1, by omega⟩
  refine ⟨transmitEvents_succ_true n (schedule msg) g, fun e he => ?_⟩
  rcases mem_of_mem_transmitEvents_succ_false he with rfl | hsched
  · exact ⟨nofun, nofun, nofun, nofun⟩
  · have hkinds : ∀ e ∈ tokenEventRecords,
        e.kind ≠ .preSettle ∧ e.kind ≠ .preDot ∧ e.kind ≠ .preGap ∧ e.kind ≠ .preSep := by decide
    exact hkinds e (mem_tokenEventRecords_of_mem_schedule hsched)

end Sys2Proof.Proofs
end

section
/-! The sizes of a run: its REPGAP events, its duration and its ON time (R190, R192, R199). -/

namespace Sys2Proof.Proofs

open Sys2Proof Sys2Proof.Machine

/-! ### Sizes that add up over appended lists -/

theorem size_flatten_replicate {size : List Event → Nat} (hnil : size [] = 0)
    (happend : ∀ a b, size (a ++ b) = size a + size b) (n : Nat) (block : List Event) :
    size (List.replicate n block).flatten = n * size block := by
  induction n with
  | zero => rw [List.replicate_zero, List.flatten_nil, hnil, Nat.zero_mul]
  | succ n ih => rw [List.replicate_succ, List.flatten_cons, happend, ih]; ring

/-- The size of a run is that of its copies, of a REPGAP between each two of them, and of the preamble when PRE_EN is set
(R190, R192). -/
theorem size_transmitEvents_succ {size : List Event → Nat} (hnil : size [] = 0)
    (happend : ∀ a b, size (a ++ b) = size a + size b) (n : Nat) (sched : List Event) (pre : Bool) (g : BitVec 4) :
    size (transmitEvents (n + 1) sched pre g) =
      (n + 1) * size sched + n * size [repgapEvent g] + (if pre then size preamble else 0) := by
  have hpre : size (if pre then preamble else []) = if pre then size preamble else 0 := by
    cases pre with
    | false => exact hnil
    | true => rfl
  have hblock : size (repgapEvent g :: sched) = size [repgapEvent g] + size sched := happend [repgapEvent g] sched
  rw [transmitEvents_succ, happend, happend, size_flatten_replicate hnil happend, hpre, hblock]
  ring

/-! ### The REPGAP events of a run -/

/-- The REPGAP events in a list of events. -/
def repgapCount (es : List Event) : Nat := (es.filter (fun e => e.kind == .repgap)).length

theorem repgapCount_append (a b : List Event) : repgapCount (a ++ b) = repgapCount a + repgapCount b := by
  simp [repgapCount]

/-- No token emits a REPGAP (R152, R157, R158). -/
theorem repgapCount_schedule (msg : List Byte) : repgapCount (schedule msg) = 0 := by
  have hkinds : ∀ e ∈ tokenEventRecords, ¬ (e.kind == .repgap) = true := by decide
  have hnone : (schedule msg).filter (fun e => e.kind == .repgap) = [] :=
    List.filter_eq_nil_iff.2 fun e he => hkinds e (mem_tokenEventRecords_of_mem_schedule he)
  rw [repgapCount, hnone, List.length_nil]

/-- A run of `n + 1` copies holds `n` REPGAP events (R192). -/
theorem repgapCount_transmitEvents_succ (n : Nat) (msg : List Byte) (pre : Bool) (g : BitVec 4) :
    repgapCount (transmitEvents (n + 1) (schedule msg) pre g) = n := by
  have hgap : repgapCount [repgapEvent g] = 1 := rfl
  have hpreamble : repgapCount preamble = 0 := rfl
  rw [size_transmitEvents_succ rfl repgapCount_append, repgapCount_schedule, hgap, hpreamble]
  simp

/-- Settles O17. The shape is `transmitEvents_succ`, and neither the preamble nor a message holds a REPGAP. -/
theorem runIsCopiesSeparatedByRepetitionGaps : Obligations.RunIsCopiesSeparatedByRepetitionGaps :=
  fun n msg pre g => ⟨transmitEvents_succ n (schedule msg) pre g, repgapCount_transmitEvents_succ n msg pre g⟩

/-! ### The duration and the ON time of a run -/

theorem totalUnits_transmitEvents_succ (n : Nat) (sched : List Event) (pre : Bool) (g : BitVec 4) :
    totalUnits (transmitEvents (n + 1) sched pre g) =
      (n + 1) * totalUnits sched + n * g.toNat + (if pre then 14 else 0) :=
  size_transmitEvents_succ totalUnits_nil totalUnits_append n sched pre g

/-- A REPGAP is OFF, so it adds nothing to the ON time (R191). -/
theorem onUnits_transmitEvents_succ (n : Nat) (sched : List Event) (pre : Bool) (g : BitVec 4) :
    onUnits (transmitEvents (n + 1) sched pre g) = (n + 1) * onUnits sched + (if pre then 3 else 0) := by
  have hgap : onUnits [repgapEvent g] = 0 := rfl
  have hpreamble : onUnits preamble = 3 := rfl
  rw [size_transmitEvents_succ onUnits_nil onUnits_append, hgap, hpreamble, Nat.mul_zero, Nat.add_zero]

/-- Settles O18. Units and ON time add up over the copies, the REPGAPs and the preamble; the example is evaluated. -/
theorem runDurationInUnits : Obligations.RunDurationInUnits := by
  refine ⟨fun count msg pre g hcount => ?_, by decide, by decide⟩
  obtain ⟨n, rfl⟩ : ∃ n, count = n + 1 := ⟨count - 1, by omega⟩
  exact ⟨totalUnits_transmitEvents_succ n (schedule msg) pre g, onUnits_transmitEvents_succ n (schedule msg) pre g⟩

end Sys2Proof.Proofs
end

section
/-! The end of a run: without a reset every run ends, with the release strobe in the one END cycle (R195, R212 to R215,
R220). -/

namespace Sys2Proof.Proofs

open Sys2Proof Sys2Proof.Machine

/-! ### Runs of steps -/

theorem runsTo_zero (s : State) : s.runsTo 0 s := rfl

theorem run_succ_of_step {M : Host.Core} {s t : M.State} (hstep : M.step s = .next t) (n : Nat) :
    M.run (n + 1) s = M.run n t := by
  rw [Host.Core.run, hstep]

theorem runsTo_succ {n : Nat} {s t u : State} (hstep : step s = .next t) (h : t.runsTo n u) : s.runsTo (n + 1) u :=
  (run_succ_of_step (M := Sys2Proof.core) hstep n).trans h

/-! ### A cycle without reset -/

/-- The next cycle without a reset pending has none, and leaves none pending (R35). -/
theorem noReset_sample {s : State} (h : s.NoReset) : s.sample.pins.rst = false ∧ s.sample.NoReset := by
  cases hp : s.pending with
  | nil => rw [sample_nil hp]; exact ⟨rfl, h⟩
  | cons p rest =>
    rw [sample_cons hp]
    exact ⟨h p (hp ▸ List.mem_cons_self), fun q hq => h q (hp ▸ List.mem_cons_of_mem p hq)⟩

/-- From a state with the invariant a cycle without reset is a quiet cycle, a read or a write: the cycle of the event on
the output is the quiet cycle (R211). -/
theorem step_cases_of_no_reset {s : State} (hs : s.Inv) (hrst : s.sample.pins.rst = false) :
    step s = .next (quietCycle s.sample) ∨ (∃ v, step s = .next (readCycle v s.sample)) ∨
    (∃ f, HostWrite f ∧ step s = .next (writeCycle f s.sample)) := by
  have h := inv_sample hs
  cases hw : s.sample.pins.access? with
  | some w =>
    rw [step_access hrst hw]
    exact .inr (exec_decodeHost_cases s.sample.cfg w s.sample)
  | none =>
    left
    by_cases hrun : s.sample.mode = .run
    · obtain ⟨e, he, _⟩ := (h.in_run hrun).current
      obtain ⟨i, hi, hdecode⟩ := decodeEvent_of_inv h hrun he
      rw [step_event hrst hw hrun he hdecode, exec_of_eventOfInstr hi, eventCycle_current he]
    · exact step_quiet hrst hw fun hr => absurd hr hrun

/-- A host write while BUSY writes at most `cancel_pend` and DONE (R248, R250, R255). -/
theorem hostWrite_busy {f : State → State → State} (hf : HostWrite f) {s : State} (hbusy : s.mode ≠ .idle) (s' : State) :
    ∃ c d, f s s' = { s' with cancelPend := c, done := d } := by
  cases hf with
  | ctrl d =>
    rcases writeCtrl_cases d s s' with ⟨hidle, _⟩ | ⟨hidle, _⟩ | ⟨_, _, hw⟩ | ⟨_, _, hw⟩
    · exact absurd hidle hbusy
    · exact absurd hidle hbusy
    · exact ⟨_, _, hw⟩
    · exact ⟨_, _, hw⟩
  | status d =>
    rcases writeStatus_cases d s s' with ⟨_, _, hw⟩ | ⟨_, hw⟩
    · exact ⟨_, _, hw⟩
    · exact ⟨_, _, hw⟩
  | count | msgLen | unitTicks => exact ⟨_, _, writeIfIdle_busy hbusy _ s'⟩
  | msg j d =>
    rcases writeMsg_cases j d s s' with ⟨hidle, _⟩ | ⟨_, hw⟩
    · exact absurd hidle hbusy
    · exact ⟨_, _, hw⟩
  | unmapped => exact ⟨_, _, writeNothing_eq s s'⟩

/-- A cycle while BUSY and without reset is the machine's part but for `cancel_pend`, DONE and the outputs, and it drives
`release` in END only (R211, R220, R255). -/
theorem step_busy {s : State} (hs : s.Inv) (hrst : s.sample.pins.rst = false) (hbusy : s.sample.mode ≠ .idle) :
    ∃ c d p, p.release = decide (s.sample.mode = .ending) ∧
      step s = .next { machinePart s.sample with cancelPend := c, done := d, ports := p } := by
  rcases step_cases_of_no_reset hs hrst with h | ⟨v, h⟩ | ⟨f, hf, h⟩
  · exact ⟨_, _, _, rfl, h⟩
  · exact ⟨_, _, { portsNow s.sample with hRdata := v }, rfl, h⟩
  · obtain ⟨c, d, hw⟩ := hostWrite_busy hf hbusy (machinePart s.sample)
    rw [writeCycle_eq, hw] at h
    exact ⟨c, d, portsNow s.sample, rfl, h⟩

/-! ### The cycles of RUN and END -/

/-- Sampling the inputs leaves the cycles that a run still has to go (R35). -/
theorem remainingCycles_sample (s : State) : s.sample.remainingCycles = s.remainingCycles := by
  cases hp : s.pending with
  | nil => rw [sample_nil hp]; rfl
  | cons p rest => rw [sample_cons hp]; rfl

/-- Whatever the driver does and whether or not a cancellation is pending, the machine's part of a RUN cycle goes on with
one cycle less to go, or the run ends (R212, R213, R214). -/
theorem machinePart_of_run {s : State} (hs : s.Inv) (hrun : s.mode = .run) :
    ((machinePart s).mode = .run ∧ (machinePart s).remainingCycles + 1 = s.remainingCycles) ∨
    (machinePart s).mode = .ending := by
  obtain ⟨_, _, hpos, _⟩ := (hs.in_run hrun).current
  have hpart := machinePart_run hrun
  rcases runStep_cases s with ⟨_, h⟩ | ⟨_, hlt, h⟩ | ⟨hcalm, _, h⟩ | ⟨_, hzero, _⟩
  · exact .inr (congrArg State.mode (hpart.trans h))
  · rw [hpart, h]
    have hticks : (s.ticksLeft - 1).toNat + 1 = s.ticksLeft.toNat := by bv_omega
    exact .inl ⟨hrun, by simp only [State.remainingCycles, State.events]; omega⟩
  · cases hc : s.cancelPend with
    | false => exact (machinePart_undisturbed hs hrun hcalm hc).imp_right fun hok => congrArg State.mode hok
    | true =>
      rcases boundary_cases s with ⟨_, _, _, hb⟩ | ⟨_, _, hclear, _⟩ | ⟨_, hb⟩
      · exact .inr (congrArg State.mode ((hpart.trans h).trans hb))
      · cases hc.symm.trans hclear
      · exact .inr (congrArg State.mode ((hpart.trans h).trans hb))
  · rw [hzero] at hpos; cases hpos

/-- A RUN cycle without reset drives no release, and after it the run has one cycle less to go or has ended (R211, R220). -/
theorem step_of_run {s : State} (hs : s.Inv) (hreset : s.NoReset) (hrun : s.mode = .run) :
    ∃ t, step s = .next t ∧ t.Inv ∧ t.NoReset ∧ t.ports.release = false ∧
      ((t.mode = .run ∧ t.remainingCycles + 1 = s.remainingCycles) ∨ t.mode = .ending) := by
  obtain ⟨hrst, hreset'⟩ := noReset_sample hreset
  have hrun' : s.sample.mode = .run := (sample_frame s).1.trans hrun
  obtain ⟨c, d, p, hrelease, hstep⟩ := step_busy hs hrst (by simp [hrun'])
  refine ⟨_, hstep, everyStepKeepsTheInvariant s _ hs hstep, ?_, by simp [hrelease, hrun'], ?_⟩
  · exact fun q hq => hreset' q ((machinePart_frame s.sample).pending ▸ hq)
  · rw [← remainingCycles_sample s]
    exact machinePart_of_run (inv_sample hs) hrun'

/-- The END cycle drives the release strobe and goes to IDLE (R215, R220). -/
theorem step_of_ending {s : State} (hs : s.Inv) (hreset : s.NoReset) (hend : s.mode = .ending) :
    ∃ t, step s = .next t ∧ t.mode = .idle ∧ t.ports.release = true := by
  have hend' : s.sample.mode = .ending := (sample_frame s).1.trans hend
  obtain ⟨c, d, p, hrelease, hstep⟩ := step_busy hs (noReset_sample hreset).1 (by simp [hend'])
  exact ⟨_, hstep, congrArg State.mode (machinePart_ending hend'), by simp [hrelease, hend']⟩

/-! ### The cycles up to the end of a run -/

/-- The run of `s` ends in `n` cycles: RUN without a release until then, one END cycle with the release, then IDLE. -/
structure EndsIn (n : Nat) (s : State) : Prop where
  in_run : ∀ m, m < n → ∃ t, s.runsTo m t ∧ t.mode = .run
  no_release : ∀ m, 1 ≤ m → m ≤ n → ∃ t, s.runsTo m t ∧ t.ports.release = false
  in_end : ∃ t, s.runsTo n t ∧ t.mode = .ending
  in_idle : ∃ t, s.runsTo (n + 1) t ∧ t.mode = .idle ∧ t.ports.release = true

theorem EndsIn.zero {s : State} (hs : s.Inv) (hreset : s.NoReset) (hend : s.mode = .ending) : EndsIn 0 s where
  in_run m hm := absurd hm (Nat.not_lt_zero m)
  no_release m hpos hle := absurd (Nat.le_trans hpos hle) (by decide)
  in_end := ⟨s, runsTo_zero s, hend⟩
  in_idle :=
    have ⟨t, hstep, hidle, hrelease⟩ := step_of_ending hs hreset hend
    ⟨t, runsTo_succ hstep (runsTo_zero t), hidle, hrelease⟩

theorem EndsIn.succ {n : Nat} {s t : State} (hrun : s.mode = .run) (hstep : step s = .next t)
    (hrelease : t.ports.release = false) (h : EndsIn n t) : EndsIn (n + 1) s where
  in_run
    | 0, _ => ⟨s, runsTo_zero s, hrun⟩
    | m + 1, hm =>
      have ⟨u, hu, hmode⟩ := h.in_run m (Nat.lt_of_succ_lt_succ hm)
      ⟨u, runsTo_succ hstep hu, hmode⟩
  no_release
    | 1, _, _ => ⟨t, runsTo_succ hstep (runsTo_zero t), hrelease⟩
    | m + 2, _, hm =>
      have ⟨u, hu, hlow⟩ := h.no_release (m + 1) (Nat.succ_pos m) (Nat.le_of_succ_le_succ hm)
      ⟨u, runsTo_succ hstep hu, hlow⟩
  in_end :=
    have ⟨u, hu, hmode⟩ := h.in_end
    ⟨u, runsTo_succ hstep hu, hmode⟩
  in_idle :=
    have ⟨u, hu, hafter⟩ := h.in_idle
    ⟨u, runsTo_succ hstep hu, hafter⟩

/-- By induction on the cycles that the run still has to go: each RUN cycle has one less, or is the last (R195). -/
theorem exists_endsIn {s : State} (hs : s.Inv) (hreset : s.NoReset) (hrun : s.mode = .run) :
    ∃ n, n ≤ s.remainingCycles ∧ EndsIn n s := by
  obtain ⟨t, hstep, ht, hreset', hrelease, ⟨hrun', hless⟩ | hend⟩ := step_of_run hs hreset hrun
  · obtain ⟨n, hn, h⟩ := exists_endsIn ht hreset' hrun'
    exact ⟨n + 1, by omega, h.succ hrun hstep hrelease⟩
  · obtain ⟨e, _, hpos, _⟩ := (hs.in_run hrun).current
    exact ⟨1, Nat.le_add_right_of_le hpos, (EndsIn.zero ht hreset' hend).succ hrun hstep hrelease⟩
termination_by s.remainingCycles

/-- Settles O28. The number of cycles is that of `exists_endsIn`. -/
theorem everyRunEndsWithOneRelease : Obligations.EveryRunEndsWithOneRelease := by
  intro s hs hreset hrun
  obtain ⟨n, hn, h⟩ := exists_endsIn hs hreset hrun
  exact ⟨n, hn, h.in_run, h.no_release, h.in_end, h.in_idle⟩

end Sys2Proof.Proofs
end

section
/-! The machine's part of a RUN cycle, branch by branch, and the event instructions that run it (R212 to R214, R277,
R278). -/

namespace Sys2Proof.Proofs

open Sys2Proof Sys2Proof.Machine

/-! ### The branches of the duration generator -/

/-- A driver failure ends the run before anything else is looked at (R212). -/
theorem machinePart_fault {s : State} (hrun : s.mode = .run) (hfault : s.pins.drvFault = true) :
    machinePart s = finish .driverFault s := by
  rw [machinePart_run hrun, runStep, if_pos hfault]

/-- Before its last cycle an event counts down (R213). -/
theorem machinePart_count {s : State} (hrun : s.mode = .run) (hcalm : s.pins.drvFault = false)
    (hlt : 1 < s.ticksLeft.toNat) : machinePart s = { s with ticksLeft := s.ticksLeft - 1 } := by
  rw [machinePart_run hrun, runStep, if_neg (by simp [hcalm]), if_pos (show 1 < s.ticksLeft from hlt)]

/-- The last cycle of an event is its boundary (R214). -/
theorem machinePart_last {s : State} (hrun : s.mode = .run) (hcalm : s.pins.drvFault = false) (hlast : s.ticksLeft = 1) :
    machinePart s = boundary s := by
  have hnot : ¬ 1 < s.ticksLeft := by rw [hlast]; decide
  rw [machinePart_run hrun, runStep, if_neg (by simp [hcalm]), if_neg hnot, if_pos hlast]

theorem boundary_next {s : State} {n : Event} (hn : s.eventAt? (s.k + 1) = some n) (hcancel : s.cancelPend = false) :
    boundary s = { s with k := s.k + 1, ticksLeft := eventTicks s n } := by
  simp [boundary, hn, hcancel]

/-- A pending cancellation is taken where there is a next event to cancel (R214). -/
theorem boundary_cancelled {s : State} {n : Event} (hn : s.eventAt? (s.k + 1) = some n) (hcancel : s.cancelPend = true) :
    boundary s = finish .cancelled s := by
  simp [boundary, hn, hcancel]

/-- After the last event the run ends OK, whatever `cancel_pend` is (R214). -/
theorem boundary_end {s : State} (hn : s.eventAt? (s.k + 1) = none) : boundary s = finish .ok s := by
  simp [boundary, hn]

theorem toNat_sub_one {x : BitVec 36} (h : 1 < x.toNat) : (x - 1).toNat = x.toNat - 1 :=
  BitVec.toNat_sub_of_le (x := x) (y := 1) h.le

/-- Settles O31, branch by branch. -/
theorem machinePartOfEveryCycle : Obligations.MachinePartOfEveryCycle := by
  intro s
  refine ⟨machinePart_idle, machinePart_ending, machinePart_fault, machinePart_count, fun hrun hcalm hlast => ?_⟩
  rw [machinePart_last hrun hcalm hlast]
  exact ⟨fun _ => boundary_cancelled, fun _ => boundary_next, boundary_end⟩

/-! ### Event instructions -/

/-- Settles O21. An event instruction is the machine's part, which counts down, with the instruction's outputs. -/
theorem eventInstructionCountsDown : Obligations.EventInstructionCountsDown := by
  intro i e s hi hrun hcalm hlt
  refine ⟨?_, toNat_sub_one hlt⟩
  rw [exec_of_eventOfInstr hi, eventCycle_eq, machinePart_count hrun hcalm hlt]

/-- Settles O22. An event instruction is the machine's part, which is the boundary, with the instruction's outputs. -/
theorem eventInstructionAtItsBoundary : Obligations.EventInstructionAtItsBoundary := by
  intro i e s hi hrun hcalm hlast
  rw [exec_of_eventOfInstr hi, eventCycle_eq, machinePart_last hrun hcalm hlast]
  refine ⟨fun n hn hcancel => ⟨?_, eventTicks_toNat s n⟩, fun n hn hcancel => ?_, fun hn => ?_⟩
  · rw [boundary_next hn hcancel]
  · rw [boundary_cancelled hn hcancel]; rfl
  · rw [boundary_end hn]; rfl

end Sys2Proof.Proofs
end

section
/-! The outputs of every step (R36, R210, R218 to R220). -/

namespace Sys2Proof.Proofs

open Sys2Proof Sys2Proof.Machine

/-! ### The record on the output -/

theorem eventRecord_level (k : BitVec 4) (u : BitVec 4) (l : BitVec 1) : (k ++ u ++ l).extractLsb' 0 1 = l := by
  revert k u l; decide

/-- A packed event is read back field by field (R85). -/
theorem pack_injective : Function.Injective Event.pack := by
  have hcode : ∀ a b : Kind, a.code = b.code → a = b := by
    intro a b; cases a <;> cases b <;> decide
  have hbit : ∀ a b : Level, a.bit = b.bit → a = b := by
    intro a b; cases a <;> cases b <;> decide
  rintro ⟨l, u, k⟩ ⟨l', u', k'⟩ h
  have hkind := congrArg (BitVec.extractLsb' 5 4) h
  have hunits := congrArg (BitVec.extractLsb' 1 4) h
  have hlevel := congrArg (BitVec.extractLsb' 0 1) h
  simp only [Event.pack, eventRecord_kind, eventRecord_units, eventRecord_level] at hkind hunits hlevel
  rw [hcode k k' hkind, hunits, hbit l l' hlevel]

/-- A record that decodes is decoded to the instruction of the event that it packs (R86). -/
theorem eventOfInstr_of_decodeEvent_pack {e : Event} {i : Instr} (h : decodeEvent e.pack = .ok i) :
    eventOfInstr i = some e := by
  obtain ⟨e', he', hpack⟩ := pack_of_decodeEvent h
  rw [he', pack_injective hpack]

/-! ### What each input makes of a cycle -/

/-- The fields of the access on the bus (R61, R87). -/
theorem access?_fields {p : Pins} {w : BitVec 45} (h : p.access? = some w) :
    p.hValid = true ∧ w[44] = p.hWrite ∧ w.extractLsb' 34 10 = p.wordNumber ∧ w.extractLsb' 0 32 = p.hWdata := by
  simp only [Pins.access?, Option.ite_none_right_eq_some, Option.some.injEq] at h
  obtain ⟨hvalid, rfl⟩ := h
  refine ⟨hvalid, ?_, ?_, ?_⟩
  · rw [← BitVec.getLsbD_eq_getElem]
    simp only [BitVec.getLsbD_append]
    simp
  · apply BitVec.eq_of_getLsbD_eq
    intro i hi
    simp only [Pins.wordNumber, BitVec.getLsbD_extractLsb', BitVec.getLsbD_append]
    simp [show ¬ (34 + i < 32) by omega, show 34 + i - 32 = 2 + i by omega, show 2 + i < 12 by omega]
  · apply BitVec.eq_of_getLsbD_eq
    intro i hi
    simp only [BitVec.getLsbD_extractLsb', BitVec.getLsbD_append]
    simp [hi]

/-- The cycle carries a write of an offset other than CTRL's. -/
def WritesElsewhere (p : Pins) : Prop := p.hValid = true ∧ p.hWrite = true ∧ p.wordNumber ≠ 0

theorem WritesElsewhere.not_cancels {p : Pins} (h : WritesElsewhere p) : ¬ p.cancels := by
  obtain ⟨_, _, helse⟩ := h
  rintro ⟨_, ⟨_, _, hzero, _⟩, _⟩
  exact helse hzero

/-- While BUSY the write does nothing but clear DONE, if that (R250, R255, R256). -/
def ClearsDoneAtMost (f : State → State → State) : Prop :=
  ∀ s s' : State, s.mode ≠ .idle → f s s' = s' ∨ f s s' = { s' with done := false }

theorem clearsDoneAtMost_writeStatus (d : Word) : ClearsDoneAtMost (writeStatus d) := by
  intro s s' _
  rcases writeStatus_cases d s s' with ⟨_, _, hw⟩ | ⟨_, hw⟩
  · exact .inr hw
  · exact .inl hw

theorem clearsDoneAtMost_writeIfIdle (set : State → State) : ClearsDoneAtMost (writeIfIdle set) :=
  fun _ s' hbusy => .inl (writeIfIdle_busy hbusy set s')

theorem clearsDoneAtMost_writeMsg (j : BitVec 10) (d : Word) : ClearsDoneAtMost (writeMsg j d) := by
  intro s s' hbusy
  rcases writeMsg_cases j d s s' with ⟨hidle, _⟩ | ⟨_, hw⟩
  · exact absurd hidle hbusy
  · exact .inl hw

theorem clearsDoneAtMost_writeNothing : ClearsDoneAtMost writeNothing :=
  fun _ _ _ => .inl rfl

/-- A read access is a read of some word (R241). -/
theorem exec_decodeHost_read (cfg : Config) {w : BitVec 45} (hw : w[44] = false) (s : State) :
    ∃ v, exec (decodeHost cfg w) s = .next (readCycle v s) := by
  simp only [decodeHost, hw, Bool.false_eq_true, if_false]
  split
  case h_6 => split_ifs <;> exact ⟨_, rfl⟩
  all_goals exact ⟨_, rfl⟩

/-- A write of word 0 is the CTRL write, under each of its three names (R88). -/
theorem exec_decodeHost_writeCtrl (cfg : Config) {w : BitVec 45} (hw : w[44] = true) (ho : w.extractLsb' 34 10 = 0)
    (s : State) : exec (decodeHost cfg w) s = .next (writeCycle (writeCtrl (w.extractLsb' 0 32)) s) := by
  simp only [decodeHost, hw, ho, if_true]
  split
  case h_1 => split_ifs <;> rfl
  all_goals contradiction

/-- A write of any other word is no CTRL write (R88, R250 to R256). -/
theorem exec_decodeHost_writeElsewhere (cfg : Config) {w : BitVec 45} (hw : w[44] = true)
    (ho : w.extractLsb' 34 10 ≠ 0) (s : State) :
    ∃ f, ClearsDoneAtMost f ∧ exec (decodeHost cfg w) s = .next (writeCycle f s) := by
  simp only [decodeHost, hw, if_true]
  split
  case h_1 hzero => exact absurd (BitVec.eq_of_toNat_eq hzero) ho
  case h_2 => exact ⟨_, clearsDoneAtMost_writeStatus _, rfl⟩
  case h_6 =>
    split_ifs
    · exact ⟨_, clearsDoneAtMost_writeMsg _ _, rfl⟩
    · exact ⟨_, clearsDoneAtMost_writeNothing, rfl⟩
  all_goals exact ⟨_, clearsDoneAtMost_writeIfIdle _, rfl⟩

/-- What a cycle with an access is, by what the access does (R88, R211). -/
theorem step_access_cases {s : State} {w : BitVec 45} (hrst : s.sample.pins.rst = false)
    (hw : s.sample.pins.access? = some w) :
    (s.sample.pins.hWrite = false ∧ ∃ v, step s = .next (readCycle v s.sample)) ∨
    (∃ d, s.sample.pins.writesCtrl d ∧ step s = .next (writeCycle (writeCtrl d) s.sample)) ∨
    (WritesElsewhere s.sample.pins ∧ ∃ f, ClearsDoneAtMost f ∧ step s = .next (writeCycle f s.sample)) := by
  obtain ⟨hvalid, hwrite, hnumber, hdata⟩ := access?_fields hw
  rw [step_access hrst hw]
  cases h : s.sample.pins.hWrite with
  | false => exact .inl ⟨rfl, exec_decodeHost_read _ (hwrite.trans h) _⟩
  | true =>
    right
    by_cases ho : s.sample.pins.wordNumber = 0
    · have hexec := exec_decodeHost_writeCtrl s.sample.cfg (hwrite.trans h) (hnumber.trans ho) s.sample
      rw [hdata] at hexec
      exact .inl ⟨_, ⟨hvalid, h, ho, rfl⟩, hexec⟩
    · exact .inr ⟨⟨hvalid, h, ho⟩, exec_decodeHost_writeElsewhere _ (hwrite.trans h) (hnumber ▸ ho) _⟩

/-- What a completed cycle without reset is, by its inputs; the cycle of the event on the output is a quiet cycle (R211). -/
theorem step_input_cases {s t : State} (hrst : s.sample.pins.rst = false) (h : step s = .next t) :
    (s.sample.pins.hValid = false ∧ t = quietCycle s.sample) ∨
    (s.sample.pins.hWrite = false ∧ ∃ v, t = readCycle v s.sample) ∨
    (∃ d, s.sample.pins.writesCtrl d ∧ t = writeCycle (writeCtrl d) s.sample) ∨
    (WritesElsewhere s.sample.pins ∧ ∃ f, ClearsDoneAtMost f ∧ t = writeCycle f s.sample) := by
  cases hw : s.sample.pins.access? with
  | some w =>
    right
    rcases step_access_cases hrst hw with ⟨hread, v, hstep⟩ | ⟨d, hd, hstep⟩ | ⟨helse, f, hf, hstep⟩ <;>
      cases h.symm.trans hstep
    · exact .inl ⟨hread, v, rfl⟩
    · exact .inr (.inl ⟨d, hd, rfl⟩)
    · exact .inr (.inr ⟨helse, f, hf, rfl⟩)
  | none =>
    have hvalid : s.sample.pins.hValid = false := by simpa [Pins.access?] using hw
    refine .inl ⟨hvalid, ?_⟩
    by_cases hevent : s.sample.mode = .run → s.sample.eventAt? s.sample.k = none
    · cases h.symm.trans (step_quiet hrst hw hevent)
      rfl
    · obtain ⟨hrun, hsome⟩ := Classical.not_imp.1 hevent
      obtain ⟨e, he⟩ := Option.ne_none_iff_exists'.1 hsome
      cases hdecode : decodeEvent e.pack with
      | ok i =>
        have hexec := exec_of_eventOfInstr (eventOfInstr_of_decodeEvent_pack hdecode) s.sample
        cases h.symm.trans ((step_event hrst hw hrun he hdecode).trans hexec)
        exact eventCycle_current he
      | error err => simp [step, fetch, decode, hrst, hw, hrun, he, hdecode] at h

/-- Outside RUN no event record is decoded, so every cycle completes (R86, R211). -/
theorem step_completes_outside_run {s : State} (hrun : s.sample.mode ≠ .run) : ∃ t, step s = .next t := by
  cases hrst : s.sample.pins.rst with
  | true => exact ⟨_, step_reset hrst⟩
  | false =>
    cases hw : s.sample.pins.access? with
    | none => exact ⟨_, step_quiet hrst hw fun h => absurd h hrun⟩
    | some w =>
      rcases step_access_cases hrst hw with ⟨_, _, h⟩ | ⟨_, _, h⟩ | ⟨_, _, _, h⟩ <;> exact ⟨_, h⟩

/-! ### The outputs of a cycle -/

/-- Sampling the inputs changes no output (R36). -/
theorem portsNow_sample (s : State) : portsNow s.sample = portsNow s := by
  cases hp : s.pending with
  | nil => rw [sample_nil hp]; rfl
  | cons p rest => rw [sample_cons hp]; rfl

/-- Every cycle drives the outputs of the state at its start, and at most a read word (R36, R210). -/
theorem step_ports {s t : State} (h : step s = .next t) : ∃ v, t.ports = { portsNow s with hRdata := v } := by
  rw [← portsNow_sample s]
  cases hrst : s.sample.pins.rst with
  | true => cases h.symm.trans (step_reset hrst); exact ⟨_, rfl⟩
  | false =>
    rcases step_input_cases hrst h with ⟨_, rfl⟩ | ⟨_, v, rfl⟩ | ⟨_, _, rfl⟩ | ⟨_, _, _, rfl⟩
    · exact ⟨(portsNow s.sample).hRdata, rfl⟩
    · exact ⟨v, rfl⟩
    · exact ⟨(portsNow s.sample).hRdata, rfl⟩
    · exact ⟨(portsNow s.sample).hRdata, rfl⟩

/-- The output is ON in RUN with an ON event at `k`, and only then (R218). -/
theorem portsNow_led_iff (s : State) :
    (portsNow s).led = true ↔ s.mode = .run ∧ ∃ e, s.events[s.k]? = some e ∧ e.level = .on := by
  cases he : s.events[s.k]? with
  | none => simp [portsNow, State.eventAt?, he, portsWith]
  | some e => simp [portsNow, State.eventAt?, he, portsWith]

/-- Settles O24. A step drives the outputs of the state before it (`step_ports`). -/
theorem outputsFollowTheModeAndTheEvent : Obligations.OutputsFollowTheModeAndTheEvent := by
  intro s t h
  obtain ⟨v, hports⟩ := step_ports h
  rw [hports]
  exact ⟨portsNow_led_iff s, decide_eq_true_iff, decide_eq_true_iff, decide_eq_true_iff⟩

end Sys2Proof.Proofs
end

section
/-! The cycles of IDLE and END (R215, R216). -/

namespace Sys2Proof.Proofs

open Sys2Proof Sys2Proof.Machine

theorem sample_mode (s : State) : s.sample.mode = s.mode := (sample_frame s).1

/-- In IDLE every output is 0 (R218 to R220, R257). -/
theorem portsNow_idle {s : State} (hidle : s.mode = .idle) : portsNow s = Ports.zero := by
  cases he : s.eventAt? s.k with
  | none => simp [portsNow, portsWith, he, hidle, State.busy, Ports.zero]
  | some e => simp [portsNow, portsWith, he, hidle, State.busy, Ports.zero, firstCycleOf]

/-- Settles O47. A cycle without a write is a quiet one or a read, and neither does more than the machine's part. -/
theorem idleHoldsWithoutAHostWrite : Obligations.IdleHoldsWithoutAHostWrite := by
  intro s hidle hrst
  have hidle' : s.sample.mode = .idle := (sample_mode s).trans hidle
  have hpart := machinePart_idle hidle'
  obtain ⟨t, hstep⟩ := step_completes_outside_run (s := s) (by simp [hidle'])
  refine ⟨hpart, fun hnowrite => ⟨t, hstep, ?_⟩, fun hvalid => ?_⟩
  · rcases step_input_cases hrst hstep with
      ⟨_, rfl⟩ | ⟨_, v, rfl⟩ | ⟨d, ⟨hvalid, hwrite, _⟩, _⟩ | ⟨⟨hvalid, hwrite, _⟩, _⟩
    · rw [quietCycle_eq, hpart]
    · rw [readCycle_eq, hpart]
    · exact absurd ⟨hvalid, hwrite⟩ hnowrite
    · exact absurd ⟨hvalid, hwrite⟩ hnowrite
  · have hquiet := step_quiet hrst (by simp [Pins.access?, hvalid]) fun hrun => by cases hidle'.symm.trans hrun
    rw [hquiet, quietCycle_eq, hpart, portsNow_idle hidle']

/-- In END a cycle without reset is the return, but for a clear of DONE and the outputs (R215, R249, R250). -/
theorem step_ending {s t : State} (hend : s.mode = .ending) (hrst : s.sample.pins.rst = false) (h : step s = .next t) :
    ∃ d, (d = s.done ∨ d = false) ∧ t = { s.sample with mode := .idle, done := d, ports := t.ports } := by
  have hend' : s.sample.mode = .ending := (sample_mode s).trans hend
  have hpart := machinePart_ending hend'
  have hdone : s.sample.done = s.done := by simp [sample_frame]
  rcases step_input_cases hrst h with ⟨_, rfl⟩ | ⟨_, v, rfl⟩ | ⟨d, _, rfl⟩ | ⟨_, f, hf, rfl⟩
  · exact ⟨_, .inl hdone, by rw [quietCycle_eq, hpart]; rfl⟩
  · exact ⟨_, .inl hdone, by rw [readCycle_eq, hpart]; rfl⟩
  · have hignored : writeCtrl d s.sample (leaveEnd s.sample) = leaveEnd s.sample := by
      simp [writeCtrl, hend']
    exact ⟨_, .inl hdone, by rw [writeCycle_eq, hpart, hignored]; rfl⟩
  · rw [writeCycle_eq, hpart]
    rcases hf s.sample (leaveEnd s.sample) (by simp [hend']) with hw | hw <;> rw [hw]
    · exact ⟨_, .inl hdone, rfl⟩
    · exact ⟨_, .inr rfl, rfl⟩

/-- Settles O48. The outputs are those of the END state (`step_ports`). -/
theorem endLastsOneCycle : Obligations.EndLastsOneCycle := by
  intro s hend hrst
  obtain ⟨t, hstep⟩ := step_completes_outside_run (s := s) (by simp [sample_mode, hend])
  obtain ⟨d, hd, ht⟩ := step_ending hend hrst hstep
  obtain ⟨v, hports⟩ := step_ports hstep
  have hdone : t.done = d := by rw [ht]
  have hled : ¬ (portsNow s).led = true := by simp [portsNow_led_iff, hend]
  refine ⟨t, hstep, by rw [hdone]; exact ht, by rw [hdone]; exact hd, ?_⟩
  rw [hports]
  exact ⟨by simp [portsNow, portsWith, hend], by simpa using hled, by simp [portsNow, portsWith, hend]⟩

end Sys2Proof.Proofs
end

section
/-! A RUN cycle without reset, whatever the host does: the machine's part, the cancel latch and the end by a driver failure
(R211, R212, R248, R250, R255). -/

namespace Sys2Proof.Proofs

open Sys2Proof Sys2Proof.Machine

/-- No cancellation is latched in a cycle whose inputs carry no CTRL write (R248). -/
theorem not_cancels_of_no_access {p : Pins} (h : p.hValid = false ∨ p.hWrite = false) : ¬ p.cancels := by
  rintro ⟨_, ⟨hvalid, hwrite, _⟩, _⟩
  rcases h with h | h
  · cases h.symm.trans hvalid
  · cases h.symm.trans hwrite

/-- A CTRL write cancels when bit 1 of its data is set (R88). -/
theorem cancels_iff_of_writesCtrl {p : Pins} {d : Word} (h : p.writesCtrl d) : p.cancels ↔ d[1] = true := by
  constructor
  · rintro ⟨d', hd', hbit⟩
    obtain rfl : d' = d := hd'.2.2.2.symm.trans h.2.2.2
    exact hbit
  · exact fun hbit => ⟨d, h, hbit⟩

/-- In RUN a CTRL write does nothing but latch a cancellation, if bit 1 of its data is set (R247, R248, R255). -/
theorem writeCtrl_run {s : State} (hrun : s.mode = .run) (d : Word) (s' : State) :
    writeCtrl d s s' = { s' with cancelPend := s'.cancelPend || d[1] } := by
  cases hd : d[1] <;> simp [writeCtrl, ctrlCancel, hrun, hd]

/-- A RUN cycle without reset is the machine's part, but for DONE and the outputs, and it latches a cancellation exactly
when its inputs carry one (R211, R248, R255). -/
theorem step_run {s : State} (hs : s.Inv) (hrun : s.mode = .run) (hrst : s.sample.pins.rst = false) :
    ∃ c d p, (c = true ↔ s.cancelPend = true ∨ s.sample.pins.cancels) ∧
      step s = .next { machinePart s.sample with cancelPend := c, done := d, ports := p } := by
  obtain ⟨t, hstep⟩ := everyStepCompletes s hs
  have hrun' : s.sample.mode = .run := (sample_mode s).trans hrun
  have hcancel : (machinePart s.sample).cancelPend = s.cancelPend :=
    (machinePart_frame s.sample).cancelPend.trans (by simp [sample_frame])
  rw [hstep, ← hcancel]
  rcases step_input_cases hrst hstep with ⟨hquiet, rfl⟩ | ⟨hread, v, rfl⟩ | ⟨d, hd, rfl⟩ | ⟨helse, f, hf, rfl⟩
  · exact ⟨_, _, _, (or_iff_left (not_cancels_of_no_access (.inl hquiet))).symm, rfl⟩
  · exact ⟨_, _, _, (or_iff_left (not_cancels_of_no_access (.inr hread))).symm, rfl⟩
  · refine ⟨_, _, _, ?_, by rw [writeCycle_eq, writeCtrl_run hrun']⟩
    rw [cancels_iff_of_writesCtrl hd, Bool.or_eq_true]
  · have hkeep : (machinePart s.sample).cancelPend = true ↔
        (machinePart s.sample).cancelPend = true ∨ s.sample.pins.cancels := (or_iff_left helse.not_cancels).symm
    rw [writeCycle_eq]
    rcases hf s.sample (machinePart s.sample) (by simp [hrun']) with hw | hw <;> rw [hw]
    · exact ⟨_, _, _, hkeep, rfl⟩
    · exact ⟨_, _, _, hkeep, rfl⟩

/-- Outside RUN the machine's part reads no `drv_fault` (R212, R215, R216). -/
theorem machinePart_drvFault_outside_run {s : State} (hrun : s.mode ≠ .run) (b : Bool) :
    machinePart { s with pins := { s.pins with drvFault := b } } =
      { machinePart s with pins := { s.pins with drvFault := b } } := by
  obtain hm | hm : s.mode = .idle ∨ s.mode = .ending := by
    cases h : s.mode with
    | idle => exact .inl rfl
    | run => exact absurd h hrun
    | ending => exact .inr rfl
  · rw [machinePart_idle hm]; exact machinePart_idle hm
  · rw [machinePart_ending hm]; exact machinePart_ending hm

/-- Settles O23. The machine's part ends the run, and no host write changes that: DONE is set by the invariant of END. -/
theorem driverFailureEndsTheRunAtOnce : Obligations.DriverFailureEndsTheRunAtOnce := by
  refine ⟨fun s hs hrun hrst hfault => ?_, fun s b hrun => machinePart_drvFault_outside_run hrun b⟩
  obtain ⟨c, d, p, _, hstep⟩ := step_run hs hrun hrst
  rw [machinePart_fault ((sample_mode s).trans hrun) hfault] at hstep
  obtain ⟨v, hports⟩ := step_ports hstep
  have hinv := everyStepKeepsTheInvariant s _ hs hstep
  refine ⟨_, hstep, rfl, (hinv.in_end rfl).done_set, rfl, ?_, ?_, ?_, ?_, ?_, ?_⟩
  · simp [sample_frame]
  · simp [sample_frame]
  · rw [hports]
  · rw [hports]; simp [portsNow, portsWith, hrun]
  · rw [← Bool.not_eq_true, portsNow_led_iff]; simp
  · simp [portsNow, portsWith]

end Sys2Proof.Proofs
end

section
/-! A START accepted with a nonempty event sequence (R222, R243, R244). -/

namespace Sys2Proof.Proofs

open Sys2Proof Sys2Proof.Machine

/-- Settles O37. The accepted START loads the first event of `transmit`, with the fields of its own write. -/
theorem startAcceptedBeginsTheRun : Obligations.StartAcceptedBeginsTheRun := by
  intro d s e hidle hstart hcount hticks hlen hgap he
  have hvalid : startValid (setCtrlFields d s) = true := (startValid_iff _).2 ⟨hcount, hticks, hlen, hgap⟩
  have hexec := exec_start_accepted hidle hstart hvalid
  rcases acceptStart_cases (setCtrlFields d s) with ⟨e', he', haccept⟩ | ⟨hnone, _⟩
  · obtain rfl : e' = e := Option.some.inj (he'.symm.trans he)
    rw [haccept] at hexec
    exact ⟨_, hexec, rfl, eventTicks_toNat _ e', rfl⟩
  · cases hnone.symm.trans he

end Sys2Proof.Proofs
end

section
/-! The latency of a CANCEL (R214, R248, R307). -/

namespace Sys2Proof.Proofs

open Sys2Proof Sys2Proof.Machine

/-- The counter never holds more than the longest event, of 15 units (R21, R23, R86). -/
theorem ticksLeft_le_of_inv {s : State} (hs : s.Inv) (hrun : s.mode = .run) :
    s.ticksLeft.toNat ≤ 15 * s.unitTicks.toNat := by
  obtain ⟨e, _, _, hle⟩ := (hs.in_run hrun).current
  have hunits := e.units.isLt
  calc s.ticksLeft.toNat
      ≤ e.units.toNat * s.unitTicks.toNat := eventTicks_toNat s e ▸ hle
    _ ≤ 15 * s.unitTicks.toNat := Nat.mul_le_mul_right _ (by omega)

/-- With a cancellation pending the run goes on within the current event only (R212, R213, R214). -/
theorem machinePart_cancelPend {s : State} (hs : s.Inv) (hrun : s.mode = .run) (hcancel : s.cancelPend = true) :
    (machinePart s).mode = .ending ∨
    ((machinePart s).mode = .run ∧ (machinePart s).ticksLeft.toNat + 1 = s.ticksLeft.toNat) := by
  obtain ⟨_, _, hpos, _⟩ := (hs.in_run hrun).current
  cases hfault : s.pins.drvFault with
  | true => rw [machinePart_fault hrun hfault]; exact .inl rfl
  | false =>
    rcases Nat.lt_or_eq_of_le hpos with hlt | hone
    · rw [machinePart_count hrun hfault hlt]
      have hticks := toNat_sub_one hlt
      exact .inr ⟨hrun, by simp only [hticks]; omega⟩
    · rw [machinePart_last hrun hfault (BitVec.eq_of_toNat_eq hone.symm)]
      cases hn : s.eventAt? (s.k + 1) with
      | some n => rw [boundary_cancelled hn hcancel]; exact .inl rfl
      | none => rw [boundary_end hn]; exact .inl rfl

/-- A RUN cycle without reset keeps a pending cancellation, and latches one that its inputs carry (R248). -/
theorem exists_step_cancelPend {s : State} (hs : s.Inv) (hreset : s.NoReset) (hrun : s.mode = .run)
    (hcancel : s.cancelPend = true ∨ s.sample.pins.cancels) :
    ∃ t, step s = .next t ∧ t.Inv ∧ t.NoReset ∧ t.cancelPend = true ∧ t.unitTicks = s.unitTicks ∧
      t.mode = (machinePart s.sample).mode ∧ t.ticksLeft = (machinePart s.sample).ticksLeft := by
  obtain ⟨hrst, hreset'⟩ := noReset_sample hreset
  obtain ⟨c, d, p, hc, hstep⟩ := step_run hs hrun hrst
  have hframe := machinePart_frame s.sample
  refine ⟨_, hstep, everyStepKeepsTheInvariant s _ hs hstep, fun q hq => hreset' q (hframe.pending ▸ hq), hc.2 hcancel,
    ?_, rfl, rfl⟩
  exact hframe.unitTicks.trans (by simp [sample_frame])

/-- With a cancellation pending the run ends within the cycles left of the current event, by induction on them (R214). -/
theorem exists_end_of_cancelPend {s : State} (hs : s.Inv) (hreset : s.NoReset) (hrun : s.mode = .run)
    (hcancel : s.cancelPend = true) : ∃ n t, n ≤ s.ticksLeft.toNat ∧ s.runsTo n t ∧ t.mode = .ending := by
  obtain ⟨_, _, hpos, _⟩ := (hs.in_run hrun).current
  obtain ⟨t, hstep, ht, hreset', hcancel', _, hmode, hticks⟩ := exists_step_cancelPend hs hreset hrun (.inl hcancel)
  have hpart := machinePart_cancelPend (inv_sample hs) ((sample_mode s).trans hrun)
    ((show s.sample.cancelPend = s.cancelPend by simp [sample_frame]).trans hcancel)
  rw [← hmode, ← hticks, show s.sample.ticksLeft = s.ticksLeft by simp [sample_frame]] at hpart
  obtain hend | ⟨hrun', hless⟩ := hpart
  · exact ⟨1, t, hpos, runsTo_succ hstep (runsTo_zero t), hend⟩
  · obtain ⟨n, u, hn, hruns, hend⟩ := exists_end_of_cancelPend ht hreset' hrun' hcancel'
    exact ⟨n + 1, u, by omega, runsTo_succ hstep hruns, hend⟩
termination_by s.ticksLeft.toNat

/-- Settles O29. The cycle of the CANCEL latches it, and the event after that cycle has at most 15 units. -/
theorem cancelLatencyIsBounded : Obligations.CancelLatencyIsBounded := by
  intro s p rest hs hreset hrun hpending hcancel
  have hpins : s.sample.pins = p := by rw [sample_cons hpending]
  obtain ⟨t, hstep, ht, hreset', hcancel', hunit, hmode, _⟩ :=
    exists_step_cancelPend hs hreset hrun (.inr (hpins ▸ hcancel))
  rcases machinePart_of_run (inv_sample hs) ((sample_mode s).trans hrun) with ⟨hrun', _⟩ | hend
  · obtain ⟨n, u, hn, hruns, hend⟩ := exists_end_of_cancelPend ht hreset' (hmode.trans hrun') hcancel'
    have hle := ticksLeft_le_of_inv ht (hmode.trans hrun')
    rw [hunit] at hle
    exact ⟨n + 1, u, Nat.succ_le_succ (hn.trans hle), runsTo_succ hstep hruns, hend⟩
  · exact ⟨1, t, Nat.le_add_left 1 _, runsTo_succ hstep (runsTo_zero t), hmode.trans hend⟩

end Sys2Proof.Proofs
end

section
/-! How long an event lasts and when each event of a run starts (R217, R226, R244, R246). -/

namespace Sys2Proof.Proofs

open Sys2Proof Sys2Proof.Machine

/-! ### Runs without a reset or a driver failure -/

theorem run_add {M : Host.Core} {m : Nat} {s t : M.State} (h : M.run m s = .next t) (n : Nat) :
    M.run (m + n) s = M.run n t := by
  induction m generalizing s with
  | zero => cases h; rw [Nat.zero_add]
  | succ m ih =>
    cases hstep : M.step s with
    | next u =>
      rw [run_succ_of_step hstep] at h
      rw [Nat.succ_add, run_succ_of_step hstep, ih h]
    | fault r => simp [Host.Core.run, hstep] at h
    | refused r => simp [Host.Core.run, hstep] at h

theorem runsTo_add {m n : Nat} {s t u : State} (h : s.runsTo m t) (h' : t.runsTo n u) : s.runsTo (m + n) u :=
  (run_add (M := Sys2Proof.core) h n).trans h'

/-- No cancellation is pending, and the inputs to come carry none. -/
def NoCancel (s : State) : Prop := s.cancelPend = false ∧ ∀ p ∈ s.pending, ¬ p.cancels

/-- `n` cycles lead from `s` to `t` in the same run, and the inputs to come are still without a reset or a driver failure. -/
structure CalmRun (n : Nat) (s t : State) : Prop where
  runs : s.runsTo n t
  inv : t.Inv
  calm : t.NoResetNoFault
  noCancel : NoCancel s → NoCancel t
  events_eq : t.events = s.events
  unitTicks_eq : t.unitTicks = s.unitTicks

theorem CalmRun.zero {s : State} (hs : s.Inv) (hcalm : s.NoResetNoFault) : CalmRun 0 s s :=
  ⟨runsTo_zero s, hs, hcalm, id, rfl, rfl⟩

theorem CalmRun.trans {m n : Nat} {s t u : State} (h : CalmRun m s t) (h' : CalmRun n t u) : CalmRun (m + n) s u where
  runs := runsTo_add h.runs h'.runs
  inv := h'.inv
  calm := h'.calm
  noCancel hs := h'.noCancel (h.noCancel hs)
  events_eq := h'.events_eq.trans h.events_eq
  unitTicks_eq := h'.unitTicks_eq.trans h.unitTicks_eq

theorem CalmRun.eventTicks_eq {n : Nat} {s t : State} (h : CalmRun n s t) (e : Event) : eventTicks t e = eventTicks s e :=
  eventTicks_congr h.unitTicks_eq e

/-- What holds of a quiet cycle and of every input to come holds of the sampled inputs and of those still to come (R35). -/
theorem sample_inputs {P : Pins → Prop} {s : State} (hquiet : P Pins.quiet) (h : ∀ p ∈ s.pending, P p) :
    P s.sample.pins ∧ ∀ p ∈ s.sample.pending, P p := by
  cases hp : s.pending with
  | nil => rw [sample_nil hp]; exact ⟨hquiet, h⟩
  | cons p rest =>
    rw [sample_cons hp]
    exact ⟨h p (hp ▸ List.mem_cons_self), fun q hq => h q (hp ▸ List.mem_cons_of_mem p hq)⟩

/-- Sampling the inputs changes no event of the run (R25, R35). -/
theorem sample_events (s : State) : s.sample.events = s.events :=
  events_congr (by simp [sample_frame]) (by simp [sample_frame]) (by simp [sample_frame]) (by simp [sample_frame])

/-- A RUN cycle without a reset is the machine's part but for the cancel latch, DONE and the outputs, and stays in the run
(R211, R255). -/
theorem exists_calmStep {s : State} (hs : s.Inv) (hcalm : s.NoResetNoFault) (hrun : s.mode = .run) :
    ∃ c d p, CalmRun 1 s { machinePart s.sample with cancelPend := c, done := d, ports := p } := by
  obtain ⟨⟨hrst, _⟩, hcalm'⟩ := sample_inputs ⟨rfl, rfl⟩ hcalm
  obtain ⟨c, d, p, hc, hstep⟩ := step_run hs hrun hrst
  have hframe := machinePart_frame s.sample
  refine ⟨c, d, p, runsTo_succ hstep (runsTo_zero _), everyStepKeepsTheInvariant s _ hs hstep,
    fun q hq => hcalm' q (hframe.pending ▸ hq), fun ⟨hclear, hnone⟩ => ?_, ?_, ?_⟩
  · obtain ⟨hnone, hnone'⟩ := sample_inputs (not_cancels_of_no_access (.inl rfl)) hnone
    refine ⟨?_, fun q hq => hnone' q (hframe.pending ▸ hq)⟩
    rw [← Bool.not_eq_true, hc]
    simp [hclear, hnone]
  · exact (events_congr hframe.count hframe.sched hframe.preEn hframe.repgap).trans (sample_events s)
  · exact hframe.unitTicks.trans (by simp [sample_frame])

/-! ### The cycles of one event -/

/-- Before the last cycle of an event one cycle takes one tick (R213). -/
theorem exists_countStep {s : State} (hs : s.Inv) (hcalm : s.NoResetNoFault) (hrun : s.mode = .run)
    (hlt : 1 < s.ticksLeft.toNat) :
    ∃ t, CalmRun 1 s t ∧ t.mode = .run ∧ t.k = s.k ∧ t.ticksLeft.toNat = s.ticksLeft.toNat - 1 := by
  obtain ⟨⟨_, hfault⟩, _⟩ := sample_inputs ⟨rfl, rfl⟩ hcalm
  have hticks : s.sample.ticksLeft = s.ticksLeft := by simp [sample_frame]
  have hk : s.sample.k = s.k := by simp [sample_frame]
  obtain ⟨c, d, p, h⟩ := exists_calmStep hs hcalm hrun
  rw [machinePart_count ((sample_mode s).trans hrun) hfault (hticks ▸ hlt)] at h
  exact ⟨_, h, (sample_mode s).trans hrun, hk, by rw [← hticks]; exact toNat_sub_one (hticks ▸ hlt)⟩

/-- Each cycle of an event has one tick less than the cycle before, by induction on the cycles (R213). -/
theorem exists_withinEvent {s : State} (hs : s.Inv) (hcalm : s.NoResetNoFault) (hrun : s.mode = .run) {n : Nat}
    (hn : n < s.ticksLeft.toNat) :
    ∃ t, CalmRun n s t ∧ t.mode = .run ∧ t.k = s.k ∧ t.ticksLeft.toNat = s.ticksLeft.toNat - n := by
  induction n with
  | zero => exact ⟨s, .zero hs hcalm, hrun, rfl, rfl⟩
  | succ n ih =>
    obtain ⟨t, ht, hrun', hk, hticks⟩ := ih (by omega)
    obtain ⟨u, hu, hrun'', hk', hticks'⟩ := exists_countStep ht.inv ht.calm hrun' (by omega)
    exact ⟨u, ht.trans hu, hrun'', hk'.trans hk, by omega⟩

/-- After the event at `k` of `s`: the next event is in its first cycle, or the run has ended, and without a cancellation it
ends after the last event only and then OK (R214). -/
def EventIsOver (s t : State) : Prop :=
  (∃ n, s.events[s.k + 1]? = some n ∧ t.mode = .run ∧ t.k = s.k + 1 ∧ t.ticksLeft = eventTicks s n) ∨
  (t.mode = .ending ∧ (NoCancel s → s.events[s.k + 1]? = none ∧ t.cause = .ok))

/-- The last cycle of an event (R214). -/
theorem exists_boundaryStep {s : State} (hs : s.Inv) (hcalm : s.NoResetNoFault) (hrun : s.mode = .run)
    (hlast : s.ticksLeft = 1) : ∃ t, CalmRun 1 s t ∧ EventIsOver s t := by
  obtain ⟨⟨_, hfault⟩, _⟩ := sample_inputs ⟨rfl, rfl⟩ hcalm
  have hk : s.sample.k = s.k := by simp [sample_frame]
  have hcancel : s.sample.cancelPend = s.cancelPend := by simp [sample_frame]
  have hunit : s.sample.unitTicks = s.unitTicks := by simp [sample_frame]
  have hnext : s.sample.eventAt? (s.sample.k + 1) = s.events[s.k + 1]? := by rw [hk, State.eventAt?, sample_events]
  obtain ⟨c, d, p, h⟩ := exists_calmStep hs hcalm hrun
  have hpart := machinePart_last ((sample_mode s).trans hrun) hfault
    ((show s.sample.ticksLeft = s.ticksLeft by simp [sample_frame]).trans hlast)
  refine ⟨_, h, ?_⟩
  rcases boundary_cases s.sample with ⟨_, _, hpend, hb⟩ | ⟨n, hn, _, hb⟩ | ⟨hnone, hb⟩ <;> rw [hpart, hb]
  · exact .inr ⟨rfl, fun hclear => by cases hclear.1.symm.trans (hcancel.symm.trans hpend)⟩
  · exact .inl ⟨n, hnext.symm.trans hn, (sample_mode s).trans hrun, congrArg (· + 1) hk, eventTicks_congr hunit n⟩
  · exact .inr ⟨rfl, fun _ => ⟨hnext.symm.trans hnone, rfl⟩⟩

/-- The current event takes exactly the cycles that it has ticks left (R217). -/
theorem exists_eventIsOver {s : State} (hs : s.Inv) (hcalm : s.NoResetNoFault) (hrun : s.mode = .run) :
    ∃ t, CalmRun s.ticksLeft.toNat s t ∧ EventIsOver s t := by
  obtain ⟨_, _, hpos, _⟩ := (hs.in_run hrun).current
  obtain ⟨t, ht, hrun', hk, hticks⟩ := exists_withinEvent hs hcalm hrun (n := s.ticksLeft.toNat - 1) (by omega)
  have hone : t.ticksLeft = 1 := BitVec.eq_of_toNat_eq (by rw [hticks]; exact Nat.sub_sub_self hpos)
  obtain ⟨u, hu, hover⟩ := exists_boundaryStep ht.inv ht.calm hrun' hone
  refine ⟨u, Nat.sub_add_cancel hpos ▸ ht.trans hu, ?_⟩
  rw [EventIsOver, hk, ht.events_eq] at hover
  rcases hover with ⟨n, hn, hmode, hk', hload⟩ | ⟨hend, hclear⟩
  · exact .inl ⟨n, hn, hmode, hk', hload.trans (ht.eventTicks_eq n)⟩
  · exact .inr ⟨hend, fun h => hclear (ht.noCancel h)⟩

/-- Settles O26. The ticks left in the first cycle of an event are `units * UNIT_TICKS`, and each cycle takes one. -/
theorem eventOccupiesExactlyItsCycles : Obligations.EventOccupiesExactlyItsCycles := by
  intro s e hs hcalm hrun he hfirst
  have hticks : s.ticksLeft.toNat = e.units.toNat * s.unitTicks.toNat := hfirst ▸ eventTicks_toNat s e
  rw [← hticks]
  constructor
  · intro n hn
    obtain ⟨t, ht, hrun', hk, hleft⟩ := exists_withinEvent hs hcalm hrun hn
    exact ⟨t, ht.runs, hrun', hk, ht.events_eq, hleft⟩
  · obtain ⟨t, ht, ⟨n, hn, hmode, hk, hload⟩ | ⟨hend, _⟩⟩ := exists_eventIsOver hs hcalm hrun
    · exact ⟨t, ht.runs, .inr ⟨hmode, hk, ht.events_eq, n, hn, hload⟩⟩
    · exact ⟨t, ht.runs, .inl hend⟩

/-! ### The events of a run that nothing disturbs -/

/-- The units before the next event are those before this one and this one's. -/
theorem totalUnits_take_succ {es : List Event} {n : Nat} {e : Event} (he : es[n]? = some e) :
    totalUnits (es.take (n + 1)) = totalUnits (es.take n) + e.units.toNat := by
  rw [List.take_add_one, he, totalUnits_append]
  simp [totalUnits]

/-- From the first cycle of a run, each event starts after the units of the events before it, by induction on the events
(R226). -/
theorem exists_startOfEvent {s : State} (hs : s.Inv) (hcalm : s.NoResetNoFault) (hclear : NoCancel s)
    (hrun : s.mode = .run) (hk : s.k = 0) {e₀ : Event} (he₀ : s.events[0]? = some e₀)
    (hload : s.ticksLeft = eventTicks s e₀) {n : Nat} {e : Event} (he : s.events[n]? = some e) :
    ∃ t, CalmRun (s.unitTicks.toNat * totalUnits (s.events.take n)) s t ∧ t.mode = .run ∧ t.k = n ∧
      t.ticksLeft.toNat = e.units.toNat * s.unitTicks.toNat := by
  induction n generalizing e with
  | zero =>
    obtain rfl : e₀ = e := Option.some.inj (he₀.symm.trans he)
    exact ⟨s, .zero hs hcalm, hrun, hk, hload ▸ eventTicks_toNat s e₀⟩
  | succ n ih =>
    obtain ⟨e', he'⟩ : ∃ e', s.events[n]? = some e' :=
      ⟨_, List.getElem?_eq_getElem (Nat.lt_of_succ_lt (List.getElem?_eq_some_iff.1 he).1)⟩
    obtain ⟨t, ht, hrun', hk', hticks⟩ := ih he'
    obtain ⟨u, hu, hover⟩ := exists_eventIsOver ht.inv ht.calm hrun'
    have hcycles : s.unitTicks.toNat * totalUnits (s.events.take n) + t.ticksLeft.toNat =
        s.unitTicks.toNat * totalUnits (s.events.take (n + 1)) := by
      rw [totalUnits_take_succ he', hticks]; ring
    rw [EventIsOver, hk', ht.events_eq, he] at hover
    rcases hover with ⟨m, hm, hmode, hk'', hload'⟩ | ⟨_, hlast⟩
    · obtain rfl := Option.some.inj hm
      refine ⟨u, hcycles ▸ ht.trans hu, hmode, hk'', ?_⟩
      rw [hload', eventTicks_toNat, ht.unitTicks_eq]
    · cases (hlast (ht.noCancel hclear)).1

theorem StartsRun.exists_startOfEvent {s : State} (h : StartsRun s) (hs : s.Inv) (hcalm : s.NoResetNoFault)
    (hclear : NoCancel s) {n : Nat} {e : Event} (he : s.events[n]? = some e) :
    ∃ t, CalmRun (s.unitTicks.toNat * totalUnits (s.events.take n)) s t ∧ t.mode = .run ∧ t.k = n ∧
      t.ticksLeft.toNat = e.units.toNat * s.unitTicks.toNat := by
  obtain ⟨_, ⟨e₀, he₀, hrun, hk, hload⟩ | ⟨hnil, _⟩⟩ := h
  · exact Proofs.exists_startOfEvent hs hcalm hclear hrun hk he₀ hload he
  · simp [hnil] at he

/-- A run that START began and nothing disturbs ends OK after the units of all its events (R214, R226, R246). -/
theorem StartsRun.exists_end {s : State} (h : StartsRun s) (hs : s.Inv) (hcalm : s.NoResetNoFault) (hclear : NoCancel s) :
    ∃ t, CalmRun (s.unitTicks.toNat * totalUnits s.events) s t ∧ t.mode = .ending ∧ t.cause = .ok := by
  obtain ⟨e₀, he₀, _⟩ | ⟨hnil, hend, _, hcause⟩ := h.2
  · obtain ⟨n, hn⟩ : ∃ n, s.events.length = n + 1 :=
      Nat.exists_eq_add_one.2 (List.getElem?_eq_some_iff.1 he₀).1
    have he : s.events[n]? = some s.events[n] := List.getElem?_eq_getElem (by omega)
    obtain ⟨t, ht, hrun', hk', hticks⟩ := h.exists_startOfEvent hs hcalm hclear he
    obtain ⟨u, hu, hover⟩ := exists_eventIsOver ht.inv ht.calm hrun'
    have hcycles : s.unitTicks.toNat * totalUnits (s.events.take n) + t.ticksLeft.toNat =
        s.unitTicks.toNat * totalUnits s.events := by
      have htake := totalUnits_take_succ he
      rw [← hn, List.take_length] at htake
      rw [htake, hticks]; ring
    rw [EventIsOver, hk', ht.events_eq, List.getElem?_eq_none (Nat.le_of_eq hn)] at hover
    rcases hover with ⟨_, hm, _⟩ | ⟨hend, hlast⟩
    · cases hm
    · exact ⟨u, hcycles ▸ ht.trans hu, hend, (hlast (ht.noCancel hclear)).2⟩
  · refine ⟨s, ?_, hend, hcause⟩
    rw [hnil, totalUnits_nil, Nat.mul_zero]
    exact .zero hs hcalm

/-! ### The cycle of the START -/

/-- A cycle with a CTRL write, under whichever of its three names (R88, R211). -/
theorem step_writesCtrl {s : State} {d : Word} (hrst : s.sample.pins.rst = false) (h : s.sample.pins.writesCtrl d) :
    step s = .next (writeCycle (writeCtrl d) s.sample) := by
  obtain ⟨hvalid, hwrite, hnumber, hdata⟩ := h
  rcases step_access_cases hrst (if_pos hvalid) with ⟨hread, _⟩ | ⟨d', ⟨_, _, _, hdata'⟩, hstep⟩ | ⟨⟨_, _, helse⟩, _⟩
  · cases hread.symm.trans hwrite
  · rw [hstep, ← hdata, ← hdata']
  · exact absurd hnumber helse

/-- The cycle of an accepted START, whatever else its inputs are: the run of `transmit` begins, and the inputs to come are
those after it (R222, R243, R244, R246). -/
theorem exists_startStep {s : State} {p : Pins} {rest : List Pins} {d : Word} (hidle : s.mode = .idle)
    (hpending : s.pending = p :: rest) (hrst : p.rst = false) (hwrite : p.writesCtrl d) (hstart : d[0] = true)
    (hcount : 1 ≤ s.count.toNat) (hticks : 1 ≤ s.unitTicks.toNat) (hlen : s.msgLen.toNat ≤ s.cfg.msgMax)
    (hgap : 7 ≤ (d.extractLsb' 8 4).toNat) :
    ∃ t, step s = .next t ∧ StartsRun t ∧ t.events = transmit s.count.toNat s.message d[2] (d.extractLsb' 8 4) ∧
      t.unitTicks = s.unitTicks ∧ t.pending = rest := by
  have hsample := sample_cons hpending
  have hvalid : startValid (setCtrlFields d s.sample) = true := by
    rw [hsample]; exact (startValid_iff _).2 ⟨hcount, hticks, hlen, hgap⟩
  have hstep : step s = .next { acceptStart (setCtrlFields d s.sample) with ports := portsNow s.sample } :=
    (step_writesCtrl (by rw [hsample]; exact hrst) (by rw [hsample]; exact hwrite)).trans
      (exec_start_accepted ((sample_mode s).trans hidle) hstart hvalid)
  have hframe := acceptStart_frame (setCtrlFields d s.sample)
  refine ⟨_, hstep, startsRun_acceptStart _ _, ?_, ?_, ?_⟩
  · refine (events_congr (t := { setCtrlFields d s.sample with sched := schedule s.sample.message }) hframe.count
      (acceptStart_sched _) hframe.preEn hframe.repgap).trans ?_
    rw [hsample]; rfl
  · exact hframe.unitTicks.trans (by rw [hsample]; rfl)
  · exact hframe.pending.trans (by rw [hsample]; rfl)

/-- Settles O27. One cycle for the START, then the events one after the other, then the END cycle. -/
theorem completeRunTimeline : Obligations.CompleteRunTimeline := by
  intro s p rest d hs hidle hpending hrst hwrite hstart hrest hcount hticks hlen hgap es
  obtain ⟨m, hstep, hstarts, hevents, hunit, hrest'⟩ :=
    exists_startStep hidle hpending hrst hwrite hstart hcount hticks hlen hgap
  have hm : m.Inv := everyStepKeepsTheInvariant s m hs hstep
  have hcalm : m.NoResetNoFault := fun q hq =>
    have ⟨hrst, hfault, _⟩ := hrest q (hrest' ▸ hq)
    ⟨hrst, hfault⟩
  have hclear : NoCancel m := ⟨hstarts.1, fun q hq =>
    have ⟨_, _, hcancel⟩ := hrest q (hrest' ▸ hq)
    hcancel⟩
  obtain ⟨u, hu, hend, hcause⟩ := hstarts.exists_end hm hcalm hclear
  obtain ⟨v, hstepEnd, hidle', hrelease⟩ := step_of_ending hu.inv (fun q hq => (hu.calm q hq).1) hend
  have hfirst : s.runsTo 1 m := runsTo_succ hstep (runsTo_zero m)
  rw [hevents, hunit] at hu
  refine ⟨fun n e he => ?_, ⟨u, runsTo_add hfirst hu.runs, hend, (hu.inv.in_end hend).done_set, hcause⟩, v, ?_, hidle',
    hrelease⟩
  · obtain ⟨t, ht, hrun, hk, hticks⟩ := hstarts.exists_startOfEvent hm hcalm hclear (by rw [hevents]; exact he)
    rw [hevents, hunit] at ht
    exact ⟨t, runsTo_add hfirst ht.runs, hrun, hk, ht.events_eq.trans hevents, hunit ▸ hticks⟩
  · have hlast := runsTo_add (runsTo_add hfirst hu.runs) (runsTo_succ hstepEnd (runsTo_zero v))
    rwa [Nat.add_right_comm] at hlast

end Sys2Proof.Proofs
end

section
/-! What DIAG_EN feeds: the tap outputs and the word of a CTRL read, and nothing else (R257, R258). -/

namespace Sys2Proof.Proofs

open Sys2Proof Sys2Proof.Machine

/-! ### Another DIAG_EN, after other outputs -/

/-- The state with another DIAG_EN, after a cycle that drove other outputs. -/
def withTap (b : Bool) (p : Ports) (s : State) : State := { s with diagEn := b, ports := p }

/-- Two states that agree but for the tap differ in DIAG_EN and the recorded outputs at most. -/
theorem eq_withTap_of_agrees {s s' : State} (h : s.AgreesButForTap s') : s' = withTap s'.diagEn s'.ports s := by
  obtain ⟨_, _, _, _, _, _, rfl⟩ := (State.agreesButForTap_iff s s').1 h
  rfl

section Commute

variable (b : Bool) (p : Ports)

theorem sample_withTap (s : State) : (withTap b p s).sample = withTap b p s.sample := by
  cases hp : s.pending with
  | nil => rw [sample_nil hp, sample_nil (s := withTap b p s) hp]; rfl
  | cons q rest => rw [sample_cons hp, sample_cons (s := withTap b p s) hp]; rfl

/-! ### The machine's part reads neither -/

theorem boundary_withTap (s : State) : boundary (withTap b p s) = withTap b p (boundary s) := by
  rcases boundary_cases s with ⟨e, he, hc, h⟩ | ⟨e, he, hc, h⟩ | ⟨he, h⟩ <;> rw [h]
  · exact boundary_cancelled he hc
  · exact boundary_next he hc
  · exact boundary_end he

theorem runStep_withTap (s : State) : runStep (withTap b p s) = withTap b p (runStep s) := by
  have hpins : (withTap b p s).pins = s.pins := rfl
  have hticks : (withTap b p s).ticksLeft = s.ticksLeft := rfl
  simp only [runStep, hpins, hticks, boundary_withTap]
  split_ifs <;> rfl

theorem machinePart_withTap (s : State) : machinePart (withTap b p s) = withTap b p (machinePart s) := by
  cases hm : s.mode with
  | idle => rw [machinePart_idle hm]; exact machinePart_idle hm
  | run => rw [machinePart_run hm, ← runStep_withTap]; exact machinePart_run hm
  | ending => rw [machinePart_ending hm]; exact machinePart_ending hm

theorem machineEnds_withTap (s : State) : machineEnds (withTap b p s) = machineEnds s := by
  rw [machineEnds, machinePart_withTap]; rfl

/-! ### A START reads neither -/

theorem acceptStart_withTap (s : State) : acceptStart (withTap b p s) = withTap b p (acceptStart s) := by
  rcases acceptStart_cases s with ⟨e, he, h⟩ | ⟨hnone, h⟩ <;>
    rcases acceptStart_cases (withTap b p s) with ⟨e', he', h'⟩ | ⟨hnone', h'⟩ <;> rw [h, h']
  · obtain rfl : e' = e := Option.some.inj (he'.symm.trans he)
    rfl
  · cases hnone'.symm.trans he
  · cases hnone.symm.trans he'
  · rfl

theorem startRequest_withTap (s : State) : startRequest (withTap b p s) = withTap b p (startRequest s) := by
  have hvalid : startValid (withTap b p s) = startValid s := rfl
  rw [startRequest, startRequest, hvalid, acceptStart_withTap]
  split <;> rfl

/-! ### A write reads neither, and a CTRL write gives both states its own DIAG_EN -/

theorem writeCtrl_withTap (d : Word) (s s' : State) :
    ∃ b', writeCtrl d (withTap b p s) (withTap b p s') = withTap b' p (writeCtrl d s s') := by
  have hmode : (withTap b p s).mode = s.mode := rfl
  simp only [writeCtrl, hmode]
  split_ifs
  · exact ⟨ctrlDiagEn d, startRequest_withTap _ p (setCtrlFields d s')⟩
  · exact ⟨ctrlDiagEn d, rfl⟩
  · exact ⟨b, rfl⟩
  · exact ⟨b, rfl⟩

theorem writeStatus_withTap (d : Word) (s s' : State) :
    writeStatus d (withTap b p s) (withTap b p s') = withTap b p (writeStatus d s s') := by
  rw [writeStatus, writeStatus, machineEnds_withTap]
  split <;> rfl

theorem writeIfIdle_withTap {set : State → State} (hset : ∀ s, set (withTap b p s) = withTap b p (set s)) (s s' : State) :
    writeIfIdle set (withTap b p s) (withTap b p s') = withTap b p (writeIfIdle set s s') := by
  have hmode : (withTap b p s).mode = s.mode := rfl
  rw [writeIfIdle, writeIfIdle, hmode, hset]
  split <;> rfl

theorem writeMsg_withTap (j : BitVec 10) (d : Word) (s s' : State) :
    writeMsg j d (withTap b p s) (withTap b p s') = withTap b p (writeMsg j d s s') := by
  have hcfg : (withTap b p s).cfg = s.cfg := rfl
  have hset := writeIfIdle_withTap b p (set := State.setMsgWord j.toNat d) (fun _ => rfl) s s'
  rw [writeMsg, writeMsg, hcfg, hset]
  split <;> rfl

theorem hostWrite_withTap {f : State → State → State} (hf : HostWrite f) (s s' : State) :
    ∃ b', f (withTap b p s) (withTap b p s') = withTap b' p (f s s') := by
  cases hf with
  | ctrl d => exact writeCtrl_withTap b p d s s'
  | status d => exact ⟨b, writeStatus_withTap b p d s s'⟩
  | count | msgLen | unitTicks => exact ⟨b, writeIfIdle_withTap b p (fun _ => by rfl) s s'⟩
  | msg j d => exact ⟨b, writeMsg_withTap b p j d s s'⟩
  | unmapped => exact ⟨b, rfl⟩

/-! ### Each kind of cycle keeps the agreement -/

theorem quietCycle_agrees (s : State) : (quietCycle s).AgreesButForTap (quietCycle (withTap b p s)) := by
  rw [quietCycle_eq (withTap b p s), machinePart_withTap]; rfl

theorem eventCycle_agrees (e : Event) (s : State) :
    (eventCycle e s).AgreesButForTap (eventCycle e (withTap b p s)) := by
  rw [eventCycle_eq e (withTap b p s), machinePart_withTap]; rfl

theorem readCycle_agrees (v v' : Word) (s : State) :
    (readCycle v s).AgreesButForTap (readCycle v' (withTap b p s)) := by
  rw [readCycle_eq v' (withTap b p s), machinePart_withTap]; rfl

theorem writeCycle_agrees {f : State → State → State} (hf : HostWrite f) (s : State) :
    (writeCycle f s).AgreesButForTap (writeCycle f (withTap b p s)) := by
  obtain ⟨b', hw⟩ := hostWrite_withTap b p hf s (machinePart s)
  rw [writeCycle_eq f (withTap b p s), machinePart_withTap, hw]; rfl

theorem resetCycle_agrees (s : State) : (resetCycle s).AgreesButForTap (resetCycle (withTap b p s)) := rfl

end Commute

/-! ### Every cycle keeps the agreement -/

/-- Which write an access is does not depend on the state (R88). -/
theorem exec_decodeHost_write (cfg : Config) {w : BitVec 45} (hw : w[44] = true) :
    ∃ f, HostWrite f ∧ ∀ s, exec (decodeHost cfg w) s = .next (writeCycle f s) := by
  simp only [decodeHost, hw, if_true]
  split
  case h_1 => split_ifs <;> exact ⟨_, .ctrl _, fun _ => rfl⟩
  case h_2 => exact ⟨_, .status _, fun _ => rfl⟩
  case h_3 => exact ⟨_, .count _, fun _ => rfl⟩
  case h_4 => exact ⟨_, .msgLen _, fun _ => rfl⟩
  case h_5 => exact ⟨_, .unitTicks _, fun _ => rfl⟩
  case h_6 =>
    split_ifs
    · exact ⟨_, .msg _ _, fun _ => rfl⟩
    · exact ⟨_, .unmapped, fun _ => rfl⟩

/-- The two states run the same access: a read may return another word (R258). -/
theorem exec_decodeHost_agrees (b : Bool) (p : Ports) (cfg : Config) (w : BitVec 45) (s : State) :
    ∃ t u, exec (decodeHost cfg w) s = .next t ∧ exec (decodeHost cfg w) (withTap b p s) = .next u ∧
      t.AgreesButForTap u := by
  cases hw : w[44] with
  | false =>
    obtain ⟨v, hread⟩ := exec_decodeHost_read cfg hw s
    obtain ⟨v', hread'⟩ := exec_decodeHost_read cfg hw (withTap b p s)
    exact ⟨_, _, hread, hread', readCycle_agrees b p v v' s⟩
  | true =>
    obtain ⟨f, hf, hwrite⟩ := exec_decodeHost_write cfg hw
    exact ⟨_, _, hwrite s, hwrite _, writeCycle_agrees b p hf s⟩

/-- The frame that a cycle runs is the same in the two states, and so is what it decodes to. -/
theorem exec_agrees (b : Bool) (p : Ports) {s : State} {f : Frame} {i : Instr} (hf : fetch s = some f)
    (hi : decode s.cfg f = .ok i) :
    ∃ t u, exec i s = .next t ∧ exec i (withTap b p s) = .next u ∧ t.AgreesButForTap u := by
  rcases fetch_cases hf with ⟨w, rfl⟩ | ⟨r, rfl⟩
  · cases hi
    exact exec_decodeHost_agrees b p s.cfg w s
  · obtain ⟨e, he⟩ := eventOfInstr_of_decodeEvent hi
    exact ⟨_, _, exec_of_eventOfInstr he s, exec_of_eventOfInstr he _, eventCycle_agrees b p e s⟩

theorem step_withTap (b : Bool) (p : Ports) {s t : State} (h : step s = .next t) :
    ∃ u, step (withTap b p s) = .next u ∧ t.AgreesButForTap u := by
  have hrst : (withTap b p s.sample).pins.rst = s.sample.pins.rst := rfl
  have hfetch : fetch (withTap b p s.sample) = fetch s.sample := rfl
  have hcfg : (withTap b p s.sample).cfg = s.sample.cfg := rfl
  simp only [step, sample_withTap, hrst, hfetch, hcfg] at h ⊢
  cases hreset : s.sample.pins.rst with
  | true =>
    simp only [hreset, if_true] at h ⊢
    cases h
    exact ⟨_, rfl, resetCycle_agrees b p _⟩
  | false =>
    simp only [hreset, Bool.false_eq_true, if_false] at h ⊢
    cases hf : fetch s.sample with
    | none =>
      simp only [hf] at h ⊢
      cases h
      exact ⟨_, rfl, quietCycle_agrees b p _⟩
    | some f =>
      simp only [hf] at h ⊢
      cases hi : decode s.sample.cfg f with
      | error e => simp only [hi] at h; cases h
      | ok i =>
        simp only [hi] at h ⊢
        obtain ⟨t', u, ht, hu, hagrees⟩ := exec_agrees b p hf hi
        cases h.symm.trans ht
        exact ⟨u, hu, hagrees⟩

/-- Settles O30. The agreeing state is `withTap` of the other, every part of a cycle commutes with that, and the outputs of
the cycle agree but for the tap. -/
theorem diagnosticsNeverChangeTheRun : Obligations.DiagnosticsNeverChangeTheRun := by
  intro s s' t hagrees hstep
  rw [eq_withTap_of_agrees hagrees]
  exact step_withTap _ _ hstep

end Sys2Proof.Proofs
end

section
/-! The diagnostic tap in every cycle (R257, R259). -/

namespace Sys2Proof.Proofs

open Sys2Proof Sys2Proof.Machine

/-- The tap is valid in the first cycle of the event at `k`, with DIAG_EN set, and only then (R257). -/
theorem portsNow_diagValid_iff (s : State) :
    (portsNow s).diagValid = true ↔
      s.mode = .run ∧ s.diagEn = true ∧ ∃ e, s.events[s.k]? = some e ∧ s.ticksLeft = eventTicks s e := by
  cases he : s.events[s.k]? with
  | none => simp [portsNow, portsWith, State.eventAt?, he]
  | some e => simp [portsNow, portsWith, State.eventAt?, he, firstCycleOf, and_assoc, and_comm (a := s.diagEn = true)]

/-- While the tap is valid it gives the record of the event at `k` (R257). -/
theorem portsNow_tap {s : State} {e : Event} (he : s.events[s.k]? = some e) (hvalid : (portsNow s).diagValid = true) :
    (portsNow s).diagLevel = decide (e.level = .on) ∧ (portsNow s).diagUnits = e.units ∧
      (portsNow s).diagKind = e.kind.code := by
  obtain ⟨hrun, hdiag, e', he', hticks⟩ := (portsNow_diagValid_iff s).1 hvalid
  obtain rfl : e' = e := Option.some.inj (he'.symm.trans he)
  obtain ⟨_, htap⟩ := portsWith_tap hrun ⟨hticks, hdiag⟩
  rwa [portsNow, State.eventAt?, he]

/-- While the tap is not valid its other outputs are 0 (R259). -/
theorem portsWith_tap_of_not_valid {s : State} {cur : Option Event} (h : (portsWith s cur).diagValid = false) :
    (portsWith s cur).diagLevel = false ∧ (portsWith s cur).diagUnits = 0 ∧ (portsWith s cur).diagKind = 0 := by
  cases cur with
  | none => exact ⟨rfl, rfl, rfl⟩
  | some e =>
    have htap : (firstCycleOf s e && s.diagEn) = false := h
    simp [portsWith, htap]

/-- Settles O25. A step drives the tap of the state before it (`step_ports`). -/
theorem diagnosticTapShowsEachEventInItsFirstCycle : Obligations.DiagnosticTapShowsEachEventInItsFirstCycle := by
  intro s t h
  obtain ⟨v, hports⟩ := step_ports h
  rw [hports]
  exact ⟨portsNow_diagValid_iff s, fun _ he hvalid => portsNow_tap he hvalid, portsWith_tap_of_not_valid⟩

end Sys2Proof.Proofs
end

section
/-! A CTRL write outside an accepted START with events: the empty run, the refused START, and the actions that are ignored
(R245 to R249). -/

namespace Sys2Proof.Proofs

open Sys2Proof Sys2Proof.Machine

/-! ### The three names of the write (R88) -/

theorem exec_wrCtrl (d : Word) (s : State) : exec (.wrCtrl d) s = .next (writeCycle (writeCtrl d) s) := rfl
theorem exec_start (d : Word) (s : State) : exec (.start d) s = .next (writeCycle (writeCtrl d) s) := rfl
theorem exec_cancel (d : Word) (s : State) : exec (.cancel d) s = .next (writeCycle (writeCtrl d) s) := rfl

/-! ### A START with no events (R246) -/

/-- A START with no events goes to END at once, with the outcome of a run that is over (R246). -/
theorem acceptStart_of_empty {s : State} (hcount : s.count.toNat = 1) (hpre : s.preEn = false)
    (hsched : schedule s.message = []) :
    acceptStart s =
      { s with done := true, cause := .ok, cancelPend := false, k := 0, sched := [], mode := .ending } := by
  rcases acceptStart_cases s with ⟨e, he, _⟩ | ⟨_, h⟩
  · change (transmitEvents s.count.toNat (schedule s.message) s.preEn s.repgap)[0]? = some e at he
    rw [hcount, hpre, hsched] at he
    cases he
  · rw [h, hsched]

/-- Settles O38. The accepted START finds no event to load, and the END cycle is `endLastsOneCycle`. -/
theorem startOfAnEmptyRunGoesToEnd : Obligations.StartOfAnEmptyRunGoesToEnd := by
  refine ⟨fun d s hidle hstart hcount hticks hlen hgap hpre hsched => ?_, fun g => rfl⟩
  have hvalid : startValid (setCtrlFields d s) = true := (startValid_iff _).2 ⟨hcount.ge, hticks, hlen, hgap⟩
  have hexec := exec_start_accepted hidle hstart hvalid
  rw [acceptStart_of_empty (s := setCtrlFields d s) hcount hpre hsched] at hexec
  refine ⟨by rw [hexec, ← hpre]; rfl, fun t ht hrst => ?_⟩
  cases hexec.symm.trans ht
  obtain ⟨u, hstep, hu, _, hrelease, _, hown⟩ := endLastsOneCycle _ rfl hrst
  exact ⟨u, hstep, by rw [hu], hrelease, hown⟩

/-! ### A START that a check fails (R245) -/

/-- A START that a check fails is refused, with the CTRL fields of its own write kept (R243, R245). -/
theorem exec_start_refused {d : Word} {s : State} (hidle : s.mode = .idle) (hstart : d[0] = true)
    (hvalid : startValid (setCtrlFields d s) = false) :
    exec (.start d) s = .next { refuseStart (setCtrlFields d s) with ports := portsNow s } := by
  have hw : writeCtrl d s s = refuseStart (setCtrlFields d s) := by
    simp [writeCtrl, ctrlStart, startRequest, hidle, hstart, hvalid]
  rw [exec_start, writeCycle_idle hidle, hw]

/-- Settles O39. The refused START stays in IDLE, where every output is 0; the example is evaluated. -/
theorem startRefusedWhenACheckFails : Obligations.StartRefusedWhenACheckFails := by
  refine ⟨fun d s hidle hstart hcheck => ?_, _, rfl, by decide⟩
  have hvalid : startValid (setCtrlFields d s) = false := by
    rw [← Bool.not_eq_true, startValid_iff]
    intro (hpass : 1 ≤ s.count.toNat ∧ 1 ≤ s.unitTicks.toNat ∧ s.msgLen.toNat ≤ s.cfg.msgMax ∧
      7 ≤ (d.extractLsb' 8 4).toNat)
    omega
  have hidle' : (refuseStart (setCtrlFields d s)).mode = .idle := hidle
  refine ⟨_, exec_start_refused hidle hstart hvalid, rfl, hidle, ?_⟩
  rw [portsNow_idle (s := { refuseStart (setCtrlFields d s) with ports := portsNow s }) hidle', portsNow_idle hidle]
  exact ⟨rfl, rfl, rfl, rfl, rfl, rfl⟩

/-! ### CTRL writes while BUSY (R247 to R249) -/

/-- While BUSY a CTRL write reads bit 1 of its data only (R247, R248). -/
theorem writeCtrl_busy_congr {d d' : Word} (hbit : d[1] = d'[1]) {s : State} (hbusy : s.mode ≠ .idle) (s' : State) :
    writeCtrl d s s' = writeCtrl d' s s' := by
  rw [writeCtrl, writeCtrl, if_neg hbusy, if_neg hbusy, ctrlCancel, ctrlCancel, hbit]

/-- While BUSY a CTRL write without CANCEL does nothing (R247). -/
theorem writeCtrl_busy_of_no_cancel {d : Word} (hbit : d[1] = false) {s : State} (hbusy : s.mode ≠ .idle) (s' : State) :
    writeCtrl d s s' = s' := by
  simp [writeCtrl, hbusy, ctrlCancel, hbit]

/-- In END a CTRL write does nothing (R247, R249). -/
theorem writeCtrl_ending {s : State} (hend : s.mode = .ending) (d : Word) (s' : State) : writeCtrl d s s' = s' := by
  simp [writeCtrl, hend]

/-- Settles O40. While BUSY only the CANCEL bit of a CTRL write is read. -/
theorem startWhileBusyIsIgnored : Obligations.StartWhileBusyIsIgnored := by
  intro d s hbusy
  have hbit : d[1] = (d &&& ~~~1)[1] := by simp
  refine ⟨?_, fun hcancel => ?_⟩
  · rw [exec_start, exec_wrCtrl, writeCycle_eq, writeCycle_eq, writeCtrl_busy_congr hbit hbusy]
  · rw [exec_start, exec_wrCtrl, writeCycle_eq, writeCtrl_busy_of_no_cancel hcancel hbusy]
    exact ⟨rfl, rfl⟩

/-- Settles O41. The machine's part is that of the state before the write, whose `cancel_pend` is the one that it reads. -/
theorem cancelInRunIsLatched : Obligations.CancelInRunIsLatched := by
  intro d s hrun hcancel
  have hcycle : writeCycle (writeCtrl d) s = { machinePart s with cancelPend := true, ports := portsNow s } := by
    rw [writeCycle_eq, writeCtrl_run hrun, hcancel, Bool.or_true]
  refine ⟨congrArg _ hcycle, congrArg _ hcycle, fun n hcalm hlast hn hpend => ?_⟩
  rw [exec_cancel, hcycle, machinePart_last hrun hcalm hlast, boundary_next hn hpend]

/-! ### CANCEL outside RUN (R249) -/

/-- In IDLE a CTRL write does not read its CANCEL bit (R249). -/
theorem writeCtrl_idle_clear_cancel (d : Word) {s : State} (hidle : s.mode = .idle) (s' : State) :
    writeCtrl (d &&& ~~~2) s s' = writeCtrl d s s' := by
  have hfields : setCtrlFields (d &&& ~~~2) s' = setCtrlFields d s' := by
    have hgap : ctrlRepgap (d &&& ~~~2) = ctrlRepgap d := by
      rw [ctrlRepgap, BitVec.extractLsb'_and, show (~~~2 : Word).extractLsb' 8 4 = BitVec.allOnes 4 by decide,
        BitVec.and_allOnes, ctrlRepgap]
    have hpre : ctrlPreEn (d &&& ~~~2) = ctrlPreEn d := by simp [ctrlPreEn]
    have hdiag : ctrlDiagEn (d &&& ~~~2) = ctrlDiagEn d := by simp [ctrlDiagEn]
    rw [setCtrlFields, hgap, hpre, hdiag]; rfl
  have hstart : ctrlStart (d &&& ~~~2) = ctrlStart d := by simp [ctrlStart]
  simp only [writeCtrl, if_pos hidle, hfields, hstart]

/-- A START request in IDLE leaves no cancellation pending in a run that it begins (R244, R249). -/
theorem startRequest_cancelPend {s : State} (hidle : s.mode = .idle) (hrun : (startRequest s).mode = .run) :
    (startRequest s).cancelPend = false := by
  unfold startRequest at hrun ⊢
  split_ifs at hrun ⊢
  · rcases acceptStart_cases s with ⟨_, _, h⟩ | ⟨_, h⟩ <;> rw [h]
  · cases hidle.symm.trans hrun

/-- Settles O42. END and IDLE read no CANCEL bit, and the START of the same write clears `cancel_pend`. -/
theorem cancelOutsideRunIsIgnored : Obligations.CancelOutsideRunIsIgnored := by
  intro d s _
  refine ⟨fun hend => ?_, fun hidle hstart => ?_, fun hidle hstart => ?_⟩
  · rw [exec_cancel, writeCycle_eq, writeCtrl_ending hend, machinePart_ending hend]; rfl
  · refine ⟨_, exec_cancel d s, ?_⟩
    rw [writeCycle_idle hidle, writeCtrl_idle_of_no_start hidle hstart]
    exact ⟨rfl, hidle⟩
  · have hrequest : writeCtrl d s s = startRequest (setCtrlFields d s) := by
      simp [writeCtrl, ctrlStart, hidle, hstart]
    refine ⟨_, exec_start d s, fun hrun => ?_, ?_⟩
    · rw [writeCycle_idle hidle, hrequest] at hrun ⊢
      exact startRequest_cancelPend (s := setCtrlFields d s) hidle hrun
    · rw [exec_start, writeCycle_eq, writeCycle_eq, writeCtrl_idle_clear_cancel d hidle]

end Sys2Proof.Proofs
end

section
/-! What is taken while BUSY: a CANCEL in RUN and a clear of DONE (R248, R250, R255). -/

namespace Sys2Proof.Proofs

open Sys2Proof Sys2Proof.Machine

/-! ### STATUS writes (R250) -/

theorem exec_wrStatus (d : Word) (s : State) : exec (.wrStatus d) s = .next (writeCycle (writeStatus d) s) := rfl

theorem machineEnds_iff (s : State) : machineEnds s = true ↔ s.mode = .run ∧ (machinePart s).mode = .ending := by
  rw [machineEnds, Bool.and_eq_true, decide_eq_true_iff, decide_eq_true_iff]

/-- The machine's part that goes to END sets DONE (R220, R223). -/
theorem machinePart_done_of_ending {s : State} (hrun : s.mode = .run) (hend : (machinePart s).mode = .ending) :
    (machinePart s).done = true := by
  rw [machinePart_run hrun] at hend ⊢
  rcases runStep_cases s with ⟨_, h⟩ | ⟨_, _, h⟩ | ⟨_, _, h⟩ | ⟨_, _, h⟩ <;> rw [h] at hend ⊢
  · rfl
  · cases hrun.symm.trans hend
  · rcases boundary_cases s with ⟨_, _, _, hb⟩ | ⟨_, _, _, hb⟩ | ⟨_, hb⟩ <;> rw [hb] at hend ⊢
    · rfl
    · cases hrun.symm.trans hend
    · rfl
  · cases hrun.symm.trans hend

/-- A STATUS write with bit 1 set clears DONE in a cycle that does not end the run (R250). -/
theorem writeStatus_clears {d : Word} {s : State} (hbit : d[1] = true) (hends : machineEnds s = false) (s' : State) :
    writeStatus d s s' = { s' with done := false } := by
  rcases writeStatus_cases d s s' with ⟨_, _, h⟩ | ⟨h | h, _⟩
  · exact h
  · cases hbit.symm.trans h
  · cases hends.symm.trans h

/-- A STATUS write with bit 1 clear, or in the cycle that ends the run, does nothing (R250). -/
theorem writeStatus_ignored {d : Word} {s : State} (h : d[1] = false ∨ machineEnds s = true) (s' : State) :
    writeStatus d s s' = s' := by
  rcases writeStatus_cases d s s' with ⟨hbit, hends, _⟩ | ⟨_, hw⟩
  · simp [hbit, hends] at h
  · exact hw

/-- Settles O43. `machineEnds` says whether the machine's part ends the run in this cycle, and then DONE was just set. -/
theorem statusWriteClearsDoneUnlessTheRunEnds : Obligations.StatusWriteClearsDoneUnlessTheRunEnds := by
  intro d s
  rw [exec_wrStatus, writeCycle_eq]
  refine ⟨fun hbit hnot => ?_, fun hbit hrun hend => ⟨?_, machinePart_done_of_ending hrun hend⟩, fun hbit => ?_⟩
  · have hends : machineEnds s = false := by rwa [← Bool.not_eq_true, machineEnds_iff]
    rw [writeStatus_clears hbit hends]
  · rw [writeStatus_ignored (.inr ((machineEnds_iff s).2 ⟨hrun, hend⟩))]
  · rw [writeStatus_ignored (.inl hbit)]

/-! ### Every cycle while BUSY (R255) -/

/-- A write of word 1 is the STATUS write (R88). -/
theorem exec_decodeHost_writeStatus (cfg : Config) {w : BitVec 45} (hw : w[44] = true) (ho : w.extractLsb' 34 10 = 1)
    (s : State) : exec (decodeHost cfg w) s = .next (writeCycle (writeStatus (w.extractLsb' 0 32)) s) := by
  simp only [decodeHost, hw, ho, if_true]
  rfl

/-- While BUSY a write of any word but CTRL's and STATUS's leaves the cycle to the machine's part (R255, R256). -/
theorem exec_decodeHost_write_ignored (cfg : Config) {w : BitVec 45} (hw : w[44] = true)
    (hctrl : w.extractLsb' 34 10 ≠ 0) (hstatus : w.extractLsb' 34 10 ≠ 1) {s : State} (hbusy : s.mode ≠ .idle) :
    exec (decodeHost cfg w) s = .next { machinePart s with ports := portsNow s } := by
  simp only [decodeHost, hw, if_true]
  split
  case h_1 hzero => exact absurd (BitVec.eq_of_toNat_eq hzero) hctrl
  case h_2 hone => exact absurd (BitVec.eq_of_toNat_eq hone) hstatus
  case h_6 =>
    split_ifs
    · exact exec_wrMsg_ignored (.inl hbusy) _
    · rfl
  all_goals exact congrArg _ (writeCycle_writeIfIdle_busy hbusy _)

/-- The cycle carries a clear of DONE: a write of STATUS with bit 1 set (R250). -/
def ClearsDone (p : Pins) : Prop := p.hValid = true ∧ p.hWrite = true ∧ p.wordNumber = 1 ∧ p.hWdata[1] = true

/-- A cycle while BUSY and without reset is the machine's part and its outputs, and at most one of a CANCEL in RUN and a
clear of DONE (R248, R250, R255). -/
theorem step_busy_cases {s t : State} (hbusy : s.mode ≠ .idle) (hrst : s.sample.pins.rst = false)
    (h : step s = .next t) :
    (∃ p, t = { machinePart s.sample with ports := p }) ∨
    (s.mode = .run ∧ s.sample.pins.cancels ∧ ∃ p, t = { machinePart s.sample with cancelPend := true, ports := p }) ∨
    (ClearsDone s.sample.pins ∧ ∃ p, t = { machinePart s.sample with done := false, ports := p }) := by
  have hbusy' : s.sample.mode ≠ .idle := by rwa [sample_mode]
  rcases step_input_cases hrst h with
    ⟨_, rfl⟩ | ⟨_, v, rfl⟩ | ⟨d, hd, rfl⟩ | ⟨⟨hvalid, hwrite, hctrl⟩, _⟩
  · exact .inl ⟨_, quietCycle_eq _⟩
  · exact .inl ⟨_, readCycle_eq v _⟩
  · rw [writeCycle_eq]
    rcases writeCtrl_cases d s.sample (machinePart s.sample) with
      ⟨hidle, _⟩ | ⟨hidle, _⟩ | ⟨hrun, hbit, hw⟩ | ⟨_, _, hw⟩
    · exact absurd hidle hbusy'
    · exact absurd hidle hbusy'
    · exact .inr (.inl ⟨(sample_mode s).symm.trans hrun, (cancels_iff_of_writesCtrl hd).2 hbit, _, by rw [hw]⟩)
    · exact .inl ⟨_, by rw [hw]⟩
  · obtain ⟨w, hw⟩ : ∃ w, s.sample.pins.access? = some w := ⟨_, if_pos hvalid⟩
    obtain ⟨_, hwrite', hnumber, hdata⟩ := access?_fields hw
    rw [step_access hrst hw] at h
    by_cases hstatus : s.sample.pins.wordNumber = 1
    · rw [exec_decodeHost_writeStatus _ (hwrite'.trans hwrite) (hnumber.trans hstatus), hdata, writeCycle_eq] at h
      rcases writeStatus_cases s.sample.pins.hWdata s.sample (machinePart s.sample) with ⟨hbit, _, hw⟩ | ⟨_, hw⟩ <;>
        rw [hw] at h <;> cases h
      · exact .inr (.inr ⟨⟨hvalid, hwrite, hstatus, hbit⟩, _, rfl⟩)
      · exact .inl ⟨_, rfl⟩
    · rw [exec_decodeHost_write_ignored _ (hwrite'.trans hwrite) (hnumber ▸ hctrl) (hnumber ▸ hstatus) hbusy'] at h
      cases h
      exact .inl ⟨_, rfl⟩

/-- Settles O46. The three cases of `step_busy_cases`, with the frames of sampling and of the machine's part. -/
theorem configurationIsFrozenWhileBusy : Obligations.ConfigurationIsFrozenWhileBusy := by
  intro s t hbusy hrst hstep
  have hframe := machinePart_frame s.sample
  obtain ⟨_, _, _, hpend, hpre, hdiag, hgap, _, _, hcount, hlen, hticks, hmsg, _, hsched, hepoch, hcfg⟩ := sample_frame s
  have hpend' : (machinePart s.sample).cancelPend = s.cancelPend := hframe.cancelPend.trans hpend
  obtain ⟨hcycle, hcancel, hdone⟩ :
      t = { machinePart s.sample with ports := t.ports, done := t.done, cancelPend := t.cancelPend } ∧
      (t.cancelPend ≠ s.cancelPend → s.mode = .run ∧ s.sample.pins.cancels) ∧
      (t.done ≠ (machinePart s.sample).done → ClearsDone s.sample.pins) := by
    rcases step_busy_cases hbusy hrst hstep with ⟨p, rfl⟩ | ⟨hrun, hcancels, p, rfl⟩ | ⟨hclears, p, rfl⟩
    · exact ⟨rfl, fun hne => absurd hpend' hne, fun hne => absurd rfl hne⟩
    · exact ⟨rfl, fun _ => ⟨hrun, hcancels⟩, fun hne => absurd rfl hne⟩
    · exact ⟨rfl, fun hne => absurd hpend' hne, fun _ => hclears⟩
  obtain ⟨hkeeps, hcfg'⟩ : KeepsRun s.sample t ∧ t.cfg = s.cfg := by
    rw [hcycle]
    exact ⟨⟨hframe.msgLen, hframe.msg, hframe.epoch, hframe.sched, hframe.count, hframe.unitTicks, hframe.repgap,
      hframe.diagEn, hframe.preEn, hframe.pending⟩, hframe.cfg.trans hcfg⟩
  have hcount' := hkeeps.count.trans hcount
  have hlen' := hkeeps.msgLen.trans hlen
  have hpre' := hkeeps.preEn.trans hpre
  have hgap' := hkeeps.repgap.trans hgap
  have hmsg' := hkeeps.msg.trans hmsg
  have hepoch' := hkeeps.epoch.trans hepoch
  exact ⟨hcycle, hcancel, hdone, hcount', hlen', hkeeps.unitTicks.trans hticks, hpre', hkeeps.diagEn.trans hdiag, hgap',
    msgByte_congr hmsg' hepoch', message_congr hlen' hmsg' hepoch',
    events_congr hcount' (hkeeps.sched.trans hsched) hpre' hgap', hcfg'⟩

end Sys2Proof.Proofs
end

section
/-! The register reads straight after reset (R241, R301). -/

namespace Sys2Proof.Proofs

open Sys2Proof Sys2Proof.Machine

/-- Settles O33, read by read from the fields of the reset state. -/
theorem readsAfterReset : Obligations.ReadsAfterReset :=
  ⟨⟨_, rfl, rfl⟩, ⟨_, rfl, rfl⟩, ⟨_, rfl, rfl⟩, ⟨_, rfl, rfl⟩, ⟨_, rfl, rfl⟩, ⟨_, rfl, rfl⟩, ⟨_, rfl, rfl⟩, ⟨_, rfl, rfl⟩⟩

end Sys2Proof.Proofs
end

section
/-! A cycle with `rst` = 1 (R36, R277, R300 to R302). -/

namespace Sys2Proof.Proofs

open Sys2Proof Sys2Proof.Machine

/-- Reset leaves no message byte known, whatever was written before (R301). -/
theorem resetCycle_read? (s : State) (i : Nat) : Memory.read? (resetCycle s).msg i = none :=
  congrArg (Memory.read? · i) reset_msg

/-- The cycle after a reset is IDLE, so it drives nothing (R36, R38). -/
theorem portsNow_resetCycle (s : State) : portsNow (resetCycle s) = Ports.zero := portsNow_idle reset_mode

theorem sample_epoch (s : State) : s.sample.epoch = s.epoch := by simp [sample_frame]

theorem sample_cfg (s : State) : s.sample.cfg = s.cfg := by simp [sample_frame]

/-- Of the state before it, a reset cycle keeps the inputs, the epoch's count and the build, and drives the outputs. -/
theorem resetCycle_sample (s : State) :
    resetCycle s.sample = { State.reset with
      ports := resetPorts s.sample, pins := s.sample.pins, pending := s.sample.pending,
      epoch := s.epoch + 1, cfg := s.cfg } := by
  rw [resetCycle, sample_epoch, sample_cfg]

/-- Settles O50. `step` looks at `rst` before it fetches an access or an event (`step_reset`), and sampling changes neither
the epoch nor the build (`resetCycle_sample`). -/
theorem resetWinsOverEverything : Obligations.ResetWinsOverEverything :=
  fun s hrst => ⟨_, step_reset hrst, resetCycle_sample s, resetCycle_read? _, portsNow_resetCycle _⟩

end Sys2Proof.Proofs
end
